-- ==== Sys2Proof/Word.lean ====
section
/-! DEFINITION. The two words of the part that are bits and not counts. -/

namespace Sys2Proof

/-- A byte of a control link (R144). -/
abbrev Byte := BitVec 8

/-- The frame count, a 32-bit number that wraps (R134). -/
abbrev FrameCount := BitVec 32

end Sys2Proof
end

