-- ==== Sys2Proof/Machine/Names.lean ====
section
/-! DEFINITION. The names of the part's elements (00_scope.md, Names of elements) and the tables keyed by them. -/

namespace Sys2Proof

/-- The four control links (10, R144). -/
inductive Link where
  | L1 | L2 | L3 | L4
deriving DecidableEq, Repr

/-- Every Link, in order. -/
def Link.all : List Link :=
  [.L1, .L2, .L3, .L4]

/-- One value for each control link. -/
structure PerLink (α : Type) where
  l1 : α
  l2 : α
  l3 : α
  l4 : α
deriving DecidableEq, Repr

namespace PerLink

variable {α β : Type}

/-- The cell of one Link. -/
def get (t : PerLink α) : Link → α
  | .L1 => t.l1
  | .L2 => t.l2
  | .L3 => t.l3
  | .L4 => t.l4

/-- The table whose cells a function gives. -/
def ofFn (f : Link → α) : PerLink α :=
  ⟨f .L1, f .L2, f .L3, f .L4⟩

/-- Replace one cell. -/
def set (t : PerLink α) (k : Link) (v : α) : PerLink α :=
  ofFn fun j => if j = k then v else t.get j

/-- Change one cell. -/
def modify (t : PerLink α) (k : Link) (f : α → α) : PerLink α :=
  t.set k (f (t.get k))

/-- The same function on every cell. -/
def map (f : α → β) (t : PerLink α) : PerLink β :=
  ofFn fun j => f (t.get j)

/-- One value in every cell. -/
def const (v : α) : PerLink α := ofFn fun _ => v

/-- The cells in order. -/
def toList (t : PerLink α) : List α := Link.all.map t.get

end PerLink

/-- The four keyers (03, R35). -/
inductive Keyer where
  | K1 | K2 | K3 | K4
deriving DecidableEq, Repr

/-- Every Keyer, in order. -/
def Keyer.all : List Keyer :=
  [.K1, .K2, .K3, .K4]

/-- One value for each keyer. -/
structure PerKeyer (α : Type) where
  k1 : α
  k2 : α
  k3 : α
  k4 : α
deriving DecidableEq, Repr

namespace PerKeyer

variable {α β : Type}

/-- The cell of one Keyer. -/
def get (t : PerKeyer α) : Keyer → α
  | .K1 => t.k1
  | .K2 => t.k2
  | .K3 => t.k3
  | .K4 => t.k4

/-- The table whose cells a function gives. -/
def ofFn (f : Keyer → α) : PerKeyer α :=
  ⟨f .K1, f .K2, f .K3, f .K4⟩

/-- Replace one cell. -/
def set (t : PerKeyer α) (k : Keyer) (v : α) : PerKeyer α :=
  ofFn fun j => if j = k then v else t.get j

/-- Change one cell. -/
def modify (t : PerKeyer α) (k : Keyer) (f : α → α) : PerKeyer α :=
  t.set k (f (t.get k))

/-- The same function on every cell. -/
def map (f : α → β) (t : PerKeyer α) : PerKeyer β :=
  ofFn fun j => f (t.get j)

/-- One value in every cell. -/
def const (v : α) : PerKeyer α := ofFn fun _ => v

/-- The cells in order. -/
def toList (t : PerKeyer α) : List α := Keyer.all.map t.get

end PerKeyer

/-- The eight control groups, in group order (07, R103). -/
inductive Group where
  | bkgd | trans | k1 | k2 | k3 | k4 | memory | setup
deriving DecidableEq, Repr

/-- Every Group, in order. -/
def Group.all : List Group :=
  [.bkgd, .trans, .k1, .k2, .k3, .k4, .memory, .setup]

/-- One value for each control group. -/
structure PerGroup (α : Type) where
  bkgd : α
  trans : α
  k1 : α
  k2 : α
  k3 : α
  k4 : α
  memory : α
  setup : α
deriving DecidableEq, Repr

namespace PerGroup

variable {α β : Type}

/-- The cell of one Group. -/
def get (t : PerGroup α) : Group → α
  | .bkgd => t.bkgd
  | .trans => t.trans
  | .k1 => t.k1
  | .k2 => t.k2
  | .k3 => t.k3
  | .k4 => t.k4
  | .memory => t.memory
  | .setup => t.setup

/-- The table whose cells a function gives. -/
def ofFn (f : Group → α) : PerGroup α :=
  ⟨f .bkgd, f .trans, f .k1, f .k2, f .k3, f .k4, f .memory, f .setup⟩

/-- Replace one cell. -/
def set (t : PerGroup α) (k : Group) (v : α) : PerGroup α :=
  ofFn fun j => if j = k then v else t.get j

/-- Change one cell. -/
def modify (t : PerGroup α) (k : Group) (f : α → α) : PerGroup α :=
  t.set k (f (t.get k))

/-- The same function on every cell. -/
def map (f : α → β) (t : PerGroup α) : PerGroup β :=
  ofFn fun j => f (t.get j)

/-- One value in every cell. -/
def const (v : α) : PerGroup α := ofFn fun _ => v

/-- The cells in order. -/
def toList (t : PerGroup α) : List α := Group.all.map t.get

end PerGroup

/-- The twelve video inputs (01, R2). -/
inductive Input where
  | I1 | I2 | I3 | I4 | I5 | I6 | I7 | I8 | I9 | I10 | I11 | I12
deriving DecidableEq, Repr

/-- Every Input, in order. -/
def Input.all : List Input :=
  [.I1, .I2, .I3, .I4, .I5, .I6, .I7, .I8, .I9, .I10, .I11, .I12]

/-- One value for each input. -/
structure PerInput (α : Type) where
  i1 : α
  i2 : α
  i3 : α
  i4 : α
  i5 : α
  i6 : α
  i7 : α
  i8 : α
  i9 : α
  i10 : α
  i11 : α
  i12 : α
deriving DecidableEq, Repr

namespace PerInput

variable {α β : Type}

/-- The cell of one Input. -/
def get (t : PerInput α) : Input → α
  | .I1 => t.i1
  | .I2 => t.i2
  | .I3 => t.i3
  | .I4 => t.i4
  | .I5 => t.i5
  | .I6 => t.i6
  | .I7 => t.i7
  | .I8 => t.i8
  | .I9 => t.i9
  | .I10 => t.i10
  | .I11 => t.i11
  | .I12 => t.i12

/-- The table whose cells a function gives. -/
def ofFn (f : Input → α) : PerInput α :=
  ⟨f .I1, f .I2, f .I3, f .I4, f .I5, f .I6, f .I7, f .I8, f .I9, f .I10, f .I11, f .I12⟩

/-- Replace one cell. -/
def set (t : PerInput α) (k : Input) (v : α) : PerInput α :=
  ofFn fun j => if j = k then v else t.get j

/-- Change one cell. -/
def modify (t : PerInput α) (k : Input) (f : α → α) : PerInput α :=
  t.set k (f (t.get k))

/-- The same function on every cell. -/
def map (f : α → β) (t : PerInput α) : PerInput β :=
  ofFn fun j => f (t.get j)

/-- One value in every cell. -/
def const (v : α) : PerInput α := ofFn fun _ => v

/-- The cells in order. -/
def toList (t : PerInput α) : List α := Input.all.map t.get

end PerInput

/-- The sixteen effects registers (08, R124). -/
inductive Register where
  | E1 | E2 | E3 | E4 | E5 | E6 | E7 | E8 | E9 | E10 | E11 | E12 | E13 | E14 | E15 | E16
deriving DecidableEq, Repr

/-- Every Register, in order. -/
def Register.all : List Register :=
  [.E1, .E2, .E3, .E4, .E5, .E6, .E7, .E8, .E9, .E10, .E11, .E12, .E13, .E14, .E15, .E16]

/-- One value for each effects register. -/
structure PerRegister (α : Type) where
  e1 : α
  e2 : α
  e3 : α
  e4 : α
  e5 : α
  e6 : α
  e7 : α
  e8 : α
  e9 : α
  e10 : α
  e11 : α
  e12 : α
  e13 : α
  e14 : α
  e15 : α
  e16 : α
deriving DecidableEq, Repr

namespace PerRegister

variable {α β : Type}

/-- The cell of one Register. -/
def get (t : PerRegister α) : Register → α
  | .E1 => t.e1
  | .E2 => t.e2
  | .E3 => t.e3
  | .E4 => t.e4
  | .E5 => t.e5
  | .E6 => t.e6
  | .E7 => t.e7
  | .E8 => t.e8
  | .E9 => t.e9
  | .E10 => t.e10
  | .E11 => t.e11
  | .E12 => t.e12
  | .E13 => t.e13
  | .E14 => t.e14
  | .E15 => t.e15
  | .E16 => t.e16

/-- The table whose cells a function gives. -/
def ofFn (f : Register → α) : PerRegister α :=
  ⟨f .E1, f .E2, f .E3, f .E4, f .E5, f .E6, f .E7, f .E8, f .E9, f .E10, f .E11, f .E12, f .E13, f .E14, f .E15, f .E16⟩

/-- Replace one cell. -/
def set (t : PerRegister α) (k : Register) (v : α) : PerRegister α :=
  ofFn fun j => if j = k then v else t.get j

/-- Change one cell. -/
def modify (t : PerRegister α) (k : Register) (f : α → α) : PerRegister α :=
  t.set k (f (t.get k))

/-- The same function on every cell. -/
def map (f : α → β) (t : PerRegister α) : PerRegister β :=
  ofFn fun j => f (t.get j)

/-- One value in every cell. -/
def const (v : α) : PerRegister α := ofFn fun _ => v

/-- The cells in order. -/
def toList (t : PerRegister α) : List α := Register.all.map t.get

end PerRegister

end Sys2Proof
end

