-- ==== Sys2Proof/Syntax.lean ====
section
/-! DEFINITION. The commands of the part: one constructor for each row of spec/opcode_table.json. -/

namespace Sys2Proof

/-- What an Input Port finds at a frame boundary (R2).
The spec takes these as conditions of the input: they come with the command that takes the boundary (log 6). -/
structure InputSignal where
  /-- the port is locked to an incoming serial signal -/
  locked : Bool
  /-- it has received an input frame start during the two frame periods that end at this boundary -/
  startSeen : Bool
  /-- active width, active height and frame rate (a fraction, frames per second) of the signal -/
  width : Nat
  height : Nat
  rateNum : Nat
  rateDen : Nat
  /-- signed distance in time, in units of 1/540 µs, from the boundary to the nearest input frame start; R2 measures it in lines
  of the current format -/
  offset : Int
deriving DecidableEq, Repr

/-- Why a receiver discards a frame (R150). -/
inductive DiscardCause where
  /-- LENGTH outside 2..60 -/
  | lengthOutside
  /-- the sum is no multiple of 256 -/
  | checkMismatch
  /-- a byte without a valid stop bit inside the frame -/
  | lineError
deriving DecidableEq, Repr

/-- The frame of a CLAIM on one link. -/
structure ClaimFrame where
  link : Link
  tag : Byte
  bytes : List Byte
deriving DecidableEq, Repr

/-- What a CLAIM command carries: the bytes after KIND and TAG, and the CLAIMs of other links that reach the Group Arbiter
together with it (R109, log 38). -/
structure ClaimParams where
  bytes : List Byte
  together : List ClaimFrame
deriving DecidableEq, Repr

/-- The frame of a request on one link: its KIND, TAG and the bytes after them (R145). -/
structure RequestFrame where
  link : Link
  kind : Byte
  tag : Byte
  bytes : List Byte
deriving DecidableEq, Repr

/-- What the command of a queued request carries: the bytes after KIND and TAG, and the requests of other links that reach the
Action Queue together with it (R87, log 38). -/
structure Params where
  bytes : List Byte
  together : List RequestFrame
deriving DecidableEq, Repr

/-- A command of the part.
A request carries the link its frame was taken from, the frame's TAG, and the body bytes after KIND and TAG (R145). -/
inductive Instr where
  /-- FRAME_BOUNDARY (R91, R134): the timer completes a period -/
  | frameBoundary (signals : PerInput InputSignal)
  /-- SWEEP (R116) -/
  | sweep
  /-- REFERENCE_PULSE (R136): a pulse at an instant of the timer's clock; the signals serve a boundary taken at it -/
  | referencePulse (instant : Nat) (signals : PerInput InputSignal)
  /-- MISSING_PULSE (R136): the window of the expected time closes without a good pulse -/
  | missingPulse
  /-- SIGNAL_LOSS (R7): the raster positions `first` to `last` of the present frame are not received -/
  | signalLoss (input : Input) (first last : Nat)
  /-- SELECT (R9): bus, source -/
  | select (link : Link) (tag : Byte) (params : Params)
  /-- MATTE (R11): Y, Cb, Cr, two bytes each -/
  | matte (link : Link) (tag : Byte) (params : Params)
  /-- NEXT SET (R54): five membership fields -/
  | nextSet (link : Link) (tag : Byte) (params : Params)
  /-- TRANSITION SETUP (R51): type, pattern, softness, rate, reverse, flip-flop -/
  | transitionSetup (link : Link) (tag : Byte) (params : Params)
  /-- FADER SETUP (R75): L, U, W, two bytes each -/
  | faderSetup (link : Link) (tag : Byte) (params : Params)
  /-- AUTO (R58) -/
  | auto (link : Link) (tag : Byte) (params : Params)
  /-- CUT (R62) -/
  | cut (link : Link) (tag : Byte) (params : Params)
  /-- FADER (R73): the reading, two bytes -/
  | fader (link : Link) (tag : Byte) (params : List Byte)
  /-- KEY ORDER (R47): four keyer numbers -/
  | keyOrder (link : Link) (tag : Byte) (params : Params)
  /-- KEY SELECT (R38): keyer, bus, source -/
  | keySelect (link : Link) (tag : Byte) (params : Params)
  /-- KEY SETUP (R39): keyer, mode, clip, gain, invert -/
  | keySetup (link : Link) (tag : Byte) (params : Params)
  /-- KEY MASK (R41): keyer, mask mode, left, right, top, bottom -/
  | keyMask (link : Link) (tag : Byte) (params : Params)
  /-- KEY CUT (R44): keyer, action -/
  | keyCut (link : Link) (tag : Byte) (params : Params)
  /-- STORE (R125): register, six part fields -/
  | store (link : Link) (tag : Byte) (params : List Byte)
  /-- RECALL (R128): register, six part fields -/
  | recallEffects (link : Link) (tag : Byte) (params : Params)
  /-- ERASE (R127): register -/
  | erase (link : Link) (tag : Byte) (params : List Byte)
  /-- CLAIM (R107): group; and the CLAIMs of other links taken together with it (R109) -/
  | claim (link : Link) (tag : Byte) (params : ClaimParams)
  /-- RELEASE (R110): scope, group, drain -/
  | release (link : Link) (tag : Byte) (params : Params)
  /-- QUERY BANK (R147) -/
  | queryBank (link : Link) (tag : Byte) (params : List Byte)
  /-- QUERY TALLY (R99) -/
  | queryTally (link : Link) (tag : Byte) (params : List Byte)
  /-- QUERY STATUS (R143) -/
  | queryStatus (link : Link) (tag : Byte) (params : List Byte)
  /-- WALK MEMORY (R132): 0 FIRST, 1 NEXT -/
  | walkMemory (link : Link) (tag : Byte) (params : List Byte)
  /-- WALK HOLDINGS (R122): 0 FIRST, 1 NEXT -/
  | walkHoldings (link : Link) (tag : Byte) (params : List Byte)
  /-- READ COUNTERS (R155): link -/
  | readCounters (link : Link) (tag : Byte) (params : List Byte)
  /-- READ LOG (R159): record -/
  | readLog (link : Link) (tag : Byte) (params : List Byte)
  /-- SET FORMAT (R142): format -/
  | setFormat (link : Link) (tag : Byte) (params : Params)
  /-- SET OUTPUT RANGE (R33): mode -/
  | setOutputRange (link : Link) (tag : Byte) (params : Params)
  /-- SET REPHASE (R141): policy -/
  | setRephase (link : Link) (tag : Byte) (params : List Byte)
  /-- SET AGING (R115): T, two bytes -/
  | setAging (link : Link) (tag : Byte) (params : List Byte)
  /-- SET LINK (R118): target, enabled, rank, eight barred fields, reports -/
  | setLink (link : Link) (tag : Byte) (params : List Byte)
  /-- ASSIGN STATIC (R113): group, link -/
  | assignStatic (link : Link) (tag : Byte) (params : List Byte)
  /-- UNASSIGN STATIC (R114): group -/
  | unassignStatic (link : Link) (tag : Byte) (params : List Byte)
  /-- LOCK SETUP (R157) -/
  | lockSetup (link : Link) (tag : Byte) (params : List Byte)
  /-- WARM RESET (R163) -/
  | warmReset (link : Link) (tag : Byte) (params : List Byte)
  /-- CLEAR LOG (R160): 0 or a record -/
  | clearLog (link : Link) (tag : Byte) (params : List Byte)
  /-- CLEAR REFERENCE FLAG (R140) -/
  | clearReferenceFlag (link : Link) (tag : Byte) (params : List Byte)
  /-- UNDEFINED_KIND (R149): a good frame whose KIND is not in the kind table -/
  | undefinedKind (link : Link) (kind tag : Byte) (params : List Byte)
  /-- DISABLED_LINK_FRAME (R120): a good frame received on a disabled link -/
  | disabledLinkFrame (link : Link) (kind tag : Byte) (params : List Byte)
  /-- FRAME_DISCARDED (R150) -/
  | frameDiscarded (link : Link) (cause : DiscardCause)
  /-- BYTE_GAP_EXPIRY (R151) -/
  | byteGapExpiry (link : Link)
  /-- TRANSMISSION_BEGINS (R153) -/
  | transmissionBegins (link : Link)
  /-- TRANSMISSION_ENDS (R154) -/
  | transmissionEnds (link : Link)
  /-- COLD_RESETN_ASSERTED (R162) -/
  | coldResetAsserted
  /-- COLD_RESETN_RELEASED (R161): `timerDue` is the instant at which the timer next completes a period (log 5) -/
  | coldResetReleased (timerDue : Nat)
  /-- WARM_RESETN_ASSERTED (R163) -/
  | warmResetAsserted
  /-- WARM_RESETN_RELEASED (R161) -/
  | warmResetReleased
  /-- BYTE_RECEIVED (R150): `stopValid` is false for a byte without a valid stop bit (R144) -/
  | byteReceived (link : Link) (byte : Byte) (stopValid : Bool)
deriving DecidableEq, Repr

end Sys2Proof
end

