-- ==== Sys2Proof/Config.lean ====
section
/-! DEFINITION. The sizes and limits the spec fixes for this part, and the one value it leaves open. -/

namespace Sys2Proof.Config

/-- Entries the Action Queue holds at most (R86). -/
def queueCapacity : Nat := 16

/-- Reply slots of a link (R152). -/
def replySlots : Nat := 12

/-- Records of the refusal log (R158). -/
def logRecords : Nat := 8

/-- The value at which a link counter stays (R154). -/
def counterLimit : Nat := 65535

/-- The value at which a repeat count stays (R158). -/
def repeatLimit : Nat := 255

/-- A coefficient that means wholly the second operand, and the end of a transition (R16, R56). -/
def unity : Nat := 1024

/-- Good pulses that end acquisition (R137). -/
def goodPulses : Nat := 8

/-- Consecutive missing pulses that end REPHASE_WAIT and LOCKED (R138, R139). -/
def missingPulses : Nat := 3

/-- Lines by which an input may lie before or after the boundary (R1, R2). -/
def alignedLines : Nat := 8

/-- Instants are counted in units of 1/540 µs, in which frame periods, lines and windows are whole in every format (log 4).
One byte of a link takes 5400 units. -/
def unitsPerMicrosecond : Nat := 540

/-- Whether a keyer record in the answer to QUERY BANK takes the 15 bytes that the table of R147 counts, or the 16 that its
listed items add up to. The spec says both, so the value is free (log 34). -/
opaque keyerRecordsOf15 : Bool

/-- How the part writes a keyer record in 15 bytes in the first case: some one-to-one coding, so that the record carries all ten
items that R48 names; which one is free (log 34). -/
opaque keyerRecordCode : Equiv.Perm (Vector Byte 15)

end Sys2Proof.Config
end

