-- ==== Sys2Proof/Machine/State.lean ====
section
/-! DEFINITION. The state of the part as plain data, block by block (00_scope.md, Block diagram), and its cold values. -/

namespace Sys2Proof.Machine

/-! Selections and formats. -/

/-- What a bus may select (R5): codes 1..12, 13 and 14. -/
inductive Source where
  | input (i : Input)
  | black
  | matte
deriving DecidableEq, Repr

/-- The four picture formats (R14). -/
inductive Format where
  | F0 | F1 | F2 | F3
deriving DecidableEq, Repr

/-- The status of an input (R2). -/
inductive InputStatus where
  | absent | wrongFormat | misaligned | aligned
deriving DecidableEq, Repr

/-- The matte colour (R8). -/
structure Matte where
  y : Nat
  cb : Nat
  cr : Nat
deriving DecidableEq, Repr

/-- The background bus a SELECT names (R9): 0 is A, 1 is B. -/
inductive BackgroundBus where
  | a | b
deriving DecidableEq, Repr

/-- The bus a KEY SELECT names (R38): 0 is FILL, 1 is SOURCE. -/
inductive KeyBus where
  | fill | source
deriving DecidableEq, Repr

/-! Keyers. -/

/-- Keyer mode (R22, R35). -/
inductive KeyMode where
  | selfKey | external | linear
deriving DecidableEq, Repr

/-- Mask mode (R26, R35). -/
inductive MaskMode where
  | none | inside | outside
deriving DecidableEq, Repr

/-- The settings of a keyer that an effects register also holds (R35, R124). -/
structure KeySettings where
  mode : KeyMode
  clip : Nat
  gain : Nat
  invert : Bool
  maskMode : MaskMode
  left : Nat
  right : Nat
  top : Nat
  bottom : Nat
deriving DecidableEq, Repr

/-- The action of a KEY CUT (R44). -/
inductive CutAction where
  | off | on | toggle
deriving DecidableEq, Repr

/-! Transitions. -/

/-- Transition type (R50). -/
inductive TransitionType where
  | mix | wipe
deriving DecidableEq, Repr

/-- Wipe pattern (R18, R50). -/
inductive Pattern where
  | h | v | box | diag
deriving DecidableEq, Repr

/-- The transition setup (R50). -/
structure TransitionSetup where
  type : TransitionType
  pattern : Pattern
  /-- E -/
  softness : Nat
  /-- D -/
  rate : Nat
  reverse : Bool
  flipFlop : Bool
deriving DecidableEq, Repr

/-- A set of elements drawn from BKGD and K1..K4 (R53). -/
structure ElementSet where
  bkgd : Bool
  keys : PerKeyer Bool
deriving DecidableEq, Repr

/-- The transition state (R56). -/
inductive TransitionState where
  | idle | runAuto | runManual
deriving DecidableEq, Repr

/-- The sense of the fader bar (R72). -/
inductive Direction where
  | up | down
deriving DecidableEq, Repr

/-- The fader record (R72). -/
structure Fader where
  /-- F, the latest accepted reading -/
  reading : Nat
  /-- F valid -/
  valid : Bool
  /-- S, the filtered reading -/
  filtered : Nat
  direction : Direction
  live : Bool
  /-- previous P_bar -/
  previous : Nat
  /-- L -/
  lower : Nat
  /-- U -/
  upper : Nat
  /-- W -/
  weight : Nat
deriving DecidableEq, Repr

/-- The bank state (00_scope.md, Terms): what the Transition Controller owns. -/
structure Bank where
  a : Source
  b : Source
  fill : PerKeyer Source
  source : PerKeyer Source
  matte : Matte
  settings : PerKeyer KeySettings
  onAir : PerKeyer Bool
  /-- the stack order, bottom first (R46) -/
  stack : List Keyer
  setup : TransitionSetup
  nextSet : ElementSet
  state : TransitionState
  /-- P -/
  position : Nat
  /-- n -/
  count : Nat
  fader : Fader
deriving DecidableEq, Repr

/-- The contents of a BANK STATE report other than the frame count (R71). -/
structure BankContents where
  a : Source
  b : Source
  state : TransitionState
  position : Nat
  nextSet : ElementSet
  type : TransitionType
  onAir : PerKeyer Bool
  stack : List Keyer
  direction : Direction
  live : Bool
deriving DecidableEq, Repr

/-! Input Ports and Compositor. -/

/-- The Input Ports (R2, R7). -/
structure Ports where
  status : PerInput InputStatus
  /-- runs of raster positions of the present frame that the port did not receive (R7, log 21) -/
  lost : PerInput (List (Nat × Nat))
deriving DecidableEq, Repr

/-- Output range mode (R32). -/
inductive OutputRange where
  | wide | legal
deriving DecidableEq, Repr

/-- The Compositor (R32, R34). -/
structure Compositor where
  range : OutputRange
  /-- both outputs carry black: from a cold reset to the first boundary after its release (R34) -/
  blackout : Bool
deriving DecidableEq, Repr

/-- The derived tally, which the tally lines carry (R97 to R99). -/
structure Tally where
  program : PerInput Bool
  preview : PerInput Bool
deriving DecidableEq, Repr

/-! Effects Memory. -/

/-- A set of parts of an effects register (R124). -/
structure PartSet where
  bkgd : Bool
  trans : Bool
  keys : PerKeyer Bool
deriving DecidableEq, Repr

/-- The BKGD part (R124). -/
structure BkgdPart where
  a : Source
  b : Source
deriving DecidableEq, Repr

/-- The TRANS part (R124). -/
structure TransPart where
  nextSet : ElementSet
  setup : TransitionSetup
  stack : List Keyer
deriving DecidableEq, Repr

/-- A keyer part (R124). -/
structure KeyPart where
  settings : KeySettings
  fill : Source
  source : Source
  onAir : Bool
deriving DecidableEq, Repr

/-- The contents of an effects register; empty when no part is present (R124). -/
structure Effects where
  bkgd : Option BkgdPart
  trans : Option TransPart
  keys : PerKeyer (Option KeyPart)
deriving DecidableEq, Repr

/-- A walk cursor over the registers or the groups (R122, R132). -/
inductive Cursor (α : Type) where
  | start
  | on (x : α)
  | finished
deriving DecidableEq, Repr

/-- The Effects Memory (R124, R132). -/
structure EffectsMemory where
  registers : PerRegister Effects
  walk : PerLink (Cursor Register)
deriving DecidableEq, Repr

/-! Group Arbiter. -/

/-- The holdings entry of a group (R104). The mark of an ACQUIRED holding is true when set. -/
inductive Holding where
  | free
  | acquired (holder : Link) (mark : Bool)
  | static (holder : Link)
deriving DecidableEq, Repr

/-- The kind of a holding (R104). -/
inductive HoldingKind where
  | acquired | static
deriving DecidableEq, Repr

/-- The attributes of a link (R117). -/
structure LinkAttributes where
  enabled : Bool
  rank : Nat
  barred : PerGroup Bool
  reports : Bool
deriving DecidableEq, Repr

/-- Where the sweep of a boundary stands against the boundary itself (the model's own, log 8). -/
inductive SweepMark where
  /-- nothing is outstanding -/
  | none
  /-- a boundary brought the counter to T and its sweep is still to be taken -/
  | owed
  /-- the count and the sweep of the coming boundary have been taken before it -/
  | ahead
deriving DecidableEq, Repr

/-- The Group Arbiter (R102, R104, R115, R117, R122). -/
structure Arbiter where
  holdings : PerGroup Holding
  attributes : PerLink LinkAttributes
  /-- BANK STATE and TALLY are owed to the link at the next boundary (R102) -/
  refresh : PerLink Bool
  sweepPeriod : Nat
  sweepCounter : Nat
  sweepMark : SweepMark
  walk : PerLink (Cursor Group)
deriving DecidableEq, Repr

/-! Action Queue. -/

/-- The scope of a RELEASE (R110). -/
inductive ReleaseScope where
  | group (g : Group)
  | keyers
  | all
deriving DecidableEq, Repr

/-- A queued request as its entry records it, clamped values included (R86). -/
inductive Action where
  | select (bus : BackgroundBus) (source : Source)
  | matte (colour : Matte)
  | nextSet (members : ElementSet)
  | transitionSetup (setup : TransitionSetup)
  | faderSetup (lower upper weight : Nat)
  | auto
  | cut
  | keyOrder (order : List Keyer)
  | keySelect (keyer : Keyer) (bus : KeyBus) (source : Source)
  | keySetup (keyer : Keyer) (mode : KeyMode) (clip gain : Nat) (invert : Bool)
  | keyMask (keyer : Keyer) (mode : MaskMode) (left right top bottom : Nat)
  | keyCut (keyer : Keyer) (action : CutAction)
  | recallEffects (register : Register) (scope : PartSet)
  | release (scope : ReleaseScope)
  | setFormat (format : Format)
  | setOutputRange (range : OutputRange)
deriving DecidableEq, Repr

/-- An entry of the Action Queue (R86). Its kind and its group are functions of the request it records. -/
structure Entry where
  link : Link
  tag : Byte
  action : Action
deriving DecidableEq, Repr

/-! Reference Timing Unit. -/

/-- Reference state (R135). -/
inductive ReferenceState where
  | freeRun | acquiring | rephaseWait | locked
deriving DecidableEq, Repr

/-- Re-phase policy (R135). -/
inductive RephasePolicy where
  | immediate | atIdle
deriving DecidableEq, Repr

/-- The Reference Timing Unit (R134, R135). Instants are in units of 1/540 µs (log 4). -/
structure ReferenceUnit where
  state : ReferenceState
  goodCount : Nat
  missingCount : Nat
  expected : Option Nat
  eventFlag : Bool
  policy : RephasePolicy
  format : Format
  frameCount : FrameCount
  /-- the instant of the latest boundary of the timer -/
  lastBoundary : Nat
  /-- the instant at which the timer takes the next boundary if no pulse does -/
  nextBoundary : Nat
deriving DecidableEq, Repr

/-! Control Link Controller. -/

/-- Refusal reasons (R148). -/
inductive Reason where
  | badKind | badLength | badValue | barred | notHolder | notHeld | claimDenied | queueFull
  | transitionActive | empty | locked | withdrawn | notStatic
deriving DecidableEq, Repr

/-- The receiver of a link (R150). -/
inductive Receiver where
  | hunt
  | length
  | body (length : Nat) (received : List Byte)
  | check (length : Nat) (received : List Byte)
deriving DecidableEq, Repr

/-- The cause of the latest reset (R161). -/
inductive ResetRecord where
  | cold | warmLine | warmRequest
deriving DecidableEq, Repr

/-- The STATUS contents (R146). -/
structure StatusContents where
  state : ReferenceState
  eventFlag : Bool
  inputs : PerInput InputStatus
  lock : Bool
  record : ResetRecord
deriving DecidableEq, Repr

/-- A message the part sends (R146). -/
inductive Message where
  | done (tag kind : Byte) (data : List Byte)
  | refused (tag kind : Byte) (reason : Reason)
  | bankState (frame : FrameCount) (contents : BankContents)
  | tally (frame : FrameCount) (tally : Tally)
  | holdings (frame : FrameCount) (shown : PerGroup (Option (Link × HoldingKind)))
  | status (contents : StatusContents)
deriving DecidableEq, Repr

/-- The four report slots of a transmit queue (R153). -/
inductive ReportSlot where
  | bankState | tally | holdings | status
deriving DecidableEq, Repr

/-- The five counters of a link (R154). -/
structure Counters where
  rxGood : Nat
  rxBad : Nat
  rxLost : Nat
  doneSent : Nat
  refusedSent : Nat
deriving DecidableEq, Repr

/-- One control link (R156). -/
structure LinkPort where
  receiver : Receiver
  /-- reply slots reserved for requests not yet answered (R152) -/
  reserved : Nat
  /-- the transmit queue, oldest first (R153) -/
  transmit : List Message
  /-- the message whose transmission is in progress -/
  sending : Option Message
  counters : Counters
deriving DecidableEq, Repr

/-! Setup and Log Unit. -/

/-- A record of the refusal log (R158). The kind is the code as received. -/
structure LogRecord where
  link : Link
  kind : Byte
  reason : Reason
  group : Option Group
  frame : FrameCount
  repeats : Nat
deriving DecidableEq, Repr

/-- The refusal log (R158): the records in order, the first being record 1. -/
structure RefusalLog where
  records : List (Option LogRecord)
  overflow : Bool
deriving DecidableEq, Repr

/-- Where the part stands in a restart (R161 to R163).
`afterCold` says that the initialisation is the one that follows a cold reset. -/
inductive Phase where
  /-- COLD_RESETn is asserted -/
  | coldReset
  /-- WARM_RESETn is asserted during a warm reset taken from it -/
  | warmReset (afterCold : Bool)
  /-- a reset is over and the boundary that ends initialisation has not come -/
  | initialising (afterCold : Bool)
  | running
deriving DecidableEq, Repr

/-- The Setup and Log Unit but for the log (R157, R161). A line is true while asserted. -/
structure SetupUnit where
  lock : Bool
  record : ResetRecord
  coldLine : Bool
  warmLine : Bool
  phase : Phase
deriving DecidableEq, Repr

/-! The whole part. -/

/-- The state of the part. -/
structure State where
  ports : Ports
  bank : Bank
  compositor : Compositor
  queue : List Entry
  tally : Tally
  /-- the BANK STATE contents at the end of the previous boundary (R100) -/
  reported : BankContents
  /-- the fader record as it stood after the latest boundary, which QUERY BANK answers with F of the moment (R85, R91, log 36) -/
  settled : Fader
  memory : EffectsMemory
  arbiter : Arbiter
  reference : ReferenceUnit
  links : PerLink LinkPort
  setup : SetupUnit
  log : RefusalLog
  /-- the commands waiting to be taken, first in, first out (log 2) -/
  pending : List Instr
deriving DecidableEq, Repr

/-- The spec names no event that stops the part, so no meaning raises a fault (INVENTORY.md, Faults). -/
inductive Fault where
deriving DecidableEq, Repr

/-- Why a command has no meaning here. -/
inductive Refusal where
  /-- Raised by `exec` alone, for a row without a meaning; safe, since nothing is claimed of it. -/
  | notModelled (mnemonic : String)
deriving DecidableEq, Repr

/-! The values after a cold reset, each as the table of its own rule gives it. -/

/-- R35. -/
def coldSettings : KeySettings :=
  { mode := .selfKey, clip := 64, gain := 256, invert := false, maskMode := .none,
    left := 0, right := 1919, top := 0, bottom := 1079 }

/-- R50. -/
def coldSetup : TransitionSetup :=
  { type := .mix, pattern := .h, softness := 0, rate := 25, reverse := false, flipFlop := false }

/-- R53. -/
def coldNextSet : ElementSet :=
  { bkgd := true, keys := .const false }

/-- R72. -/
def coldFader : Fader :=
  { reading := 0, valid := false, filtered := 0, direction := .up, live := false, previous := 0,
    lower := 64, upper := 4031, weight := 8 }

/-- R6, R8, R35, R36, R46, R50, R53, R56, R72. -/
def coldBank : Bank :=
  { a := .black, b := .black, fill := .const .black, source := .const .black,
    matte := { y := 502, cb := 512, cr := 512 },
    settings := .const coldSettings, onAir := .const false, stack := [.K1, .K2, .K3, .K4],
    setup := coldSetup, nextSet := coldNextSet, state := .idle, position := 0, count := 0,
    fader := coldFader }

/-- R100: after a cold reset the copy holds the cold values. -/
def coldReported : BankContents :=
  { a := .black, b := .black, state := .idle, position := 0, nextSet := coldNextSet, type := .mix,
    onAir := .const false, stack := [.K1, .K2, .K3, .K4], direction := .up, live := false }

/-- R3: every status is ABSENT. -/
def coldPorts : Ports :=
  { status := .const .absent, lost := .const [] }

/-- R99: the derived tally is clear. -/
def clearTally : Tally :=
  { program := .const false, preview := .const false }

/-- An empty effects register (R124). -/
def emptyEffects : Effects :=
  { bkgd := none, trans := none, keys := .const none }

/-- R124, R132. -/
def coldMemory : EffectsMemory :=
  { registers := .const emptyEffects, walk := .const .start }

/-- R117. -/
def coldAttributes : LinkAttributes :=
  { enabled := true, rank := 0, barred := .const false, reports := true }

/-- R104, R115, R117, R122. -/
def coldArbiter : Arbiter :=
  { holdings := .const .free, attributes := .const coldAttributes, refresh := .const false,
    sweepPeriod := 3000, sweepCounter := 0, sweepMark := .none, walk := .const .start }

/-- R135, with the instants of the timer, which the spec leaves open (log 5). -/
def coldReference (last next : Nat) : ReferenceUnit :=
  { state := .freeRun, goodCount := 0, missingCount := 0, expected := none, eventFlag := false,
    policy := .atIdle, format := .F0, frameCount := 0, lastBoundary := last, nextBoundary := next }

/-- R154: every counter zero. -/
def zeroCounters : Counters :=
  { rxGood := 0, rxBad := 0, rxLost := 0, doneSent := 0, refusedSent := 0 }

/-- R156: a link after either reset. -/
def freshPort : LinkPort :=
  { receiver := .hunt, reserved := 0, transmit := [], sending := none, counters := zeroCounters }

/-- R158: every record empty and the overflow flag clear. -/
def emptyLog : RefusalLog :=
  { records := List.replicate Config.logRecords none, overflow := false }

/-- The state of every block at its cold values, with the lines, the phase, the timer and the waiting commands given. -/
def coldState (setup : SetupUnit) (last next : Nat) (pending : List Instr) : State :=
  { ports := coldPorts, bank := coldBank, compositor := { range := .wide, blackout := true }, queue := [],
    tally := clearTally, reported := coldReported, settled := coldFader, memory := coldMemory, arbiter := coldArbiter,
    reference := coldReference last next, links := .const freshPort, setup := setup, log := emptyLog,
    pending := pending }

/-- The part right after a cold reset: COLD_RESETn has been released and initialisation has begun (R162, logs 3 and 5). -/
def State.reset : State :=
  coldState { lock := false, record := .cold, coldLine := false, warmLine := false, phase := .initialising true }
    0 10800000 []

end Sys2Proof.Machine
end

