-- ==== Sys2Proof/Machine/Formats.lean ====
section
/-! DEFINITION. The geometry and timing of the four formats (R14, R134) and the clamp of the Conventions. -/

namespace Sys2Proof.Machine

/-- clamp(v, lo, hi) of 00_scope.md on natural numbers. -/
def clampNat (v lo hi : Nat) : Nat :=
  if v < lo then lo else if hi < v then hi else v

/-- clamp(v, lo, hi) of 00_scope.md on integers. -/
def clampInt (v lo hi : Int) : Int :=
  if v < lo then lo else if hi < v then hi else v

/-- Wa (R14). -/
def Format.width : Format → Nat
  | .F0 => 1920
  | .F1 => 1920
  | .F2 => 1280
  | .F3 => 1280

/-- Ha (R14). -/
def Format.height : Format → Nat
  | .F0 => 1080
  | .F1 => 1080
  | .F2 => 720
  | .F3 => 720

/-- Numerator of the frame rate (R14). -/
def Format.rateNum : Format → Nat
  | .F0 => 50
  | .F1 => 60000
  | .F2 => 50
  | .F3 => 60000

/-- Denominator of the frame rate (R14). -/
def Format.rateDen : Format → Nat
  | .F0 => 1
  | .F1 => 1001
  | .F2 => 1
  | .F3 => 1001

/-- The frame period in units of 1/540 µs: 20 ms, or 1001/60 ms (R14, R134). -/
def Format.period : Format → Nat
  | .F0 => 10800000
  | .F1 => 9009000
  | .F2 => 10800000
  | .F3 => 9009000

/-- The total line count by which R134 divides the period. -/
def Format.totalLines : Format → Nat
  | .F0 => 1125
  | .F1 => 1125
  | .F2 => 750
  | .F3 => 750

/-- One line (R2, R134, R137): a whole number of units in every format. -/
def Format.line (f : Format) : Nat := f.period / f.totalLines

/-- 0.1% of a frame period, a whole number of units in every format (R136). -/
def Format.window (f : Format) : Nat := f.period / 1000

/-- The signal has the active width, the active height and the frame rate of the format (R2). -/
def InputSignal.ofFormat (g : InputSignal) (f : Format) : Bool :=
  g.width == f.width && g.height == f.height && g.rateNum * f.rateDen == f.rateNum * g.rateDen

/-- The status of an input at a boundary: the first value of the table of R2 whose condition holds.
The offset is measured in lines of the format it is compared with (log 7). -/
def evaluateInput (f : Format) (g : InputSignal) : InputStatus :=
  if !(g.locked && g.startSeen) then .absent
  else if !InputSignal.ofFormat g f then .wrongFormat
  else if Config.alignedLines * f.line < g.offset.natAbs then .misaligned
  else .aligned

/-- A mask rectangle clamped to the picture of a format, each coordinate on its own (R42, R43, R130). -/
def clampMask (f : Format) (k : KeySettings) : KeySettings :=
  { k with
    left := min k.left (f.width - 1), right := min k.right (f.width - 1),
    top := min k.top (f.height - 1), bottom := min k.bottom (f.height - 1) }

end Sys2Proof.Machine
end

