-- ==== Sys2Proof/Machine/Operands.lean ====
section
/-! DEFINITION. The kinds of request, and every parameter and result item with its code on a link (R145 to R148).
Reading answers none where the kind's own rule refuses the value with BAD_VALUE. -/

namespace Sys2Proof.Machine

/-! Kinds (R148). -/

/-- The request kinds of the kind table. -/
inductive Kind where
  | select | matte
  | nextSet | transitionSetup | faderSetup | auto | cut | fader | keyOrder
  | keySelect | keySetup | keyMask | keyCut
  | store | recallEffects | erase
  | claim | release
  | queryBank | queryTally | queryStatus | walkMemory | walkHoldings | readCounters | readLog
  | setFormat | setOutputRange | setRephase | setAging | setLink | assignStatic | unassignStatic
  | lockSetup | warmReset | clearLog | clearReferenceFlag
deriving DecidableEq, Repr

/-- The code of a kind (R148). -/
def Kind.code : Kind → Byte
  | .select => 0x01 | .matte => 0x02
  | .nextSet => 0x08 | .transitionSetup => 0x09 | .faderSetup => 0x0A | .auto => 0x0B | .cut => 0x0C
  | .fader => 0x0D | .keyOrder => 0x0E
  | .keySelect => 0x10 | .keySetup => 0x11 | .keyMask => 0x12 | .keyCut => 0x13
  | .store => 0x18 | .recallEffects => 0x19 | .erase => 0x1A
  | .claim => 0x20 | .release => 0x21
  | .queryBank => 0x28 | .queryTally => 0x29 | .queryStatus => 0x2A | .walkMemory => 0x2B
  | .walkHoldings => 0x2C | .readCounters => 0x2D | .readLog => 0x2E
  | .setFormat => 0x30 | .setOutputRange => 0x31 | .setRephase => 0x32 | .setAging => 0x33
  | .setLink => 0x34 | .assignStatic => 0x35 | .unassignStatic => 0x36 | .lockSetup => 0x37
  | .warmReset => 0x38 | .clearLog => 0x39 | .clearReferenceFlag => 0x3A

/-- The kind of a code; none where the code is absent from the kind table (R149). -/
def Kind.ofCode (b : Byte) : Option Kind :=
  match b.toNat with
  | 0x01 => some .select | 0x02 => some .matte
  | 0x08 => some .nextSet | 0x09 => some .transitionSetup | 0x0A => some .faderSetup | 0x0B => some .auto
  | 0x0C => some .cut | 0x0D => some .fader | 0x0E => some .keyOrder
  | 0x10 => some .keySelect | 0x11 => some .keySetup | 0x12 => some .keyMask | 0x13 => some .keyCut
  | 0x18 => some .store | 0x19 => some .recallEffects | 0x1A => some .erase
  | 0x20 => some .claim | 0x21 => some .release
  | 0x28 => some .queryBank | 0x29 => some .queryTally | 0x2A => some .queryStatus | 0x2B => some .walkMemory
  | 0x2C => some .walkHoldings | 0x2D => some .readCounters | 0x2E => some .readLog
  | 0x30 => some .setFormat | 0x31 => some .setOutputRange | 0x32 => some .setRephase | 0x33 => some .setAging
  | 0x34 => some .setLink | 0x35 => some .assignStatic | 0x36 => some .unassignStatic | 0x37 => some .lockSetup
  | 0x38 => some .warmReset | 0x39 => some .clearLog | 0x3A => some .clearReferenceFlag
  | _ => none

/-- The request body length of a kind, KIND and TAG included (R148). -/
def Kind.bodyLength : Kind → Nat
  | .select => 4 | .matte => 8
  | .nextSet => 7 | .transitionSetup => 10 | .faderSetup => 8 | .auto => 2 | .cut => 2 | .fader => 4 | .keyOrder => 6
  | .keySelect => 5 | .keySetup => 9 | .keyMask => 12 | .keyCut => 4
  | .store => 9 | .recallEffects => 9 | .erase => 3
  | .claim => 3 | .release => 5
  | .queryBank => 2 | .queryTally => 2 | .queryStatus => 2 | .walkMemory => 3 | .walkHoldings => 3
  | .readCounters => 3 | .readLog => 3
  | .setFormat => 3 | .setOutputRange => 3 | .setRephase => 3 | .setAging => 4 | .setLink => 15
  | .assignStatic => 4 | .unassignStatic => 3 | .lockSetup => 2 | .warmReset => 2 | .clearLog => 3
  | .clearReferenceFlag => 2

/-- The kinds whose requests wait in the Action Queue (R86); a RELEASE does where it is drained. -/
def Kind.isQueued : Kind → Bool
  | .select => true | .matte => true | .nextSet => true | .transitionSetup => true
  | .faderSetup => true | .auto => true | .cut => true | .fader => false
  | .keyOrder => true | .keySelect => true | .keySetup => true | .keyMask => true
  | .keyCut => true | .store => false | .recallEffects => true | .erase => false
  | .claim => false | .release => true | .queryBank => false | .queryTally => false
  | .queryStatus => false | .walkMemory => false | .walkHoldings => false | .readCounters => false
  | .readLog => false | .setFormat => true | .setOutputRange => true | .setRephase => false
  | .setAging => false | .setLink => false | .assignStatic => false | .unassignStatic => false
  | .lockSetup => false | .warmReset => false | .clearLog => false | .clearReferenceFlag => false

/-- The code of a refusal reason (R148). -/
def Reason.code : Reason → Byte
  | .badKind => 1 | .badLength => 2 | .badValue => 3 | .barred => 4 | .notHolder => 5 | .notHeld => 6
  | .claimDenied => 7 | .queueFull => 8 | .transitionActive => 9 | .empty => 10 | .locked => 11
  | .withdrawn => 12 | .notStatic => 13

/-! Reading (R145). -/

/-- A number in 0..65535: two bytes, high byte first. -/
def number (high low : Byte) : Nat := high.toNat * 256 + low.toNat

/-- A membership field, or another enumeration of 0 and 1. -/
def flagOf (b : Byte) : Option Bool :=
  match b.toNat with
  | 0 => some false
  | 1 => some true
  | _ => none

def linkOf (b : Byte) : Option Link :=
  match b.toNat with
  | 1 => some .L1 | 2 => some .L2 | 3 => some .L3 | 4 => some .L4
  | _ => none

def keyerOf (b : Byte) : Option Keyer :=
  match b.toNat with
  | 1 => some .K1 | 2 => some .K2 | 3 => some .K3 | 4 => some .K4
  | _ => none

/-- R103: the group codes. -/
def groupOf (b : Byte) : Option Group :=
  match b.toNat with
  | 0 => some .bkgd | 1 => some .trans | 2 => some .k1 | 3 => some .k2
  | 4 => some .k3 | 5 => some .k4 | 6 => some .memory | 7 => some .setup
  | _ => none

/-- R5: the source codes. -/
def sourceOf (b : Byte) : Option Source :=
  match b.toNat with
  | 1 => some (.input .I1) | 2 => some (.input .I2) | 3 => some (.input .I3) | 4 => some (.input .I4)
  | 5 => some (.input .I5) | 6 => some (.input .I6) | 7 => some (.input .I7) | 8 => some (.input .I8)
  | 9 => some (.input .I9) | 10 => some (.input .I10) | 11 => some (.input .I11) | 12 => some (.input .I12)
  | 13 => some .black | 14 => some .matte
  | _ => none

def registerOf (b : Byte) : Option Register :=
  match b.toNat with
  | 1 => some .E1 | 2 => some .E2 | 3 => some .E3 | 4 => some .E4
  | 5 => some .E5 | 6 => some .E6 | 7 => some .E7 | 8 => some .E8
  | 9 => some .E9 | 10 => some .E10 | 11 => some .E11 | 12 => some .E12
  | 13 => some .E13 | 14 => some .E14 | 15 => some .E15 | 16 => some .E16
  | _ => none

/-- A record of the refusal log, 1..8 (R159). -/
def recordOf (b : Byte) : Option Nat :=
  if 1 ≤ b.toNat ∧ b.toNat ≤ Config.logRecords then some b.toNat else none

/-- FIRST is false, NEXT is true (R122, R132). -/
def walkStepOf (b : Byte) : Option Bool := flagOf b

/-- Five membership fields, not all 0 (R54). -/
def elementSetOf (bkgd k1 k2 k3 k4 : Byte) : Option ElementSet := do
  let f ← flagOf bkgd
  let f1 ← flagOf k1
  let f2 ← flagOf k2
  let f3 ← flagOf k3
  let f4 ← flagOf k4
  if f || f1 || f2 || f3 || f4 then some ⟨f, ⟨f1, f2, f3, f4⟩⟩ else none

/-- Six part fields, not all 0 (R125, R128). -/
def partSetOf (bkgd trans k1 k2 k3 k4 : Byte) : Option PartSet := do
  let f ← flagOf bkgd
  let g ← flagOf trans
  let f1 ← flagOf k1
  let f2 ← flagOf k2
  let f3 ← flagOf k3
  let f4 ← flagOf k4
  if f || g || f1 || f2 || f3 || f4 then some ⟨f, g, ⟨f1, f2, f3, f4⟩⟩ else none

/-- R9. -/
def readSelect : List Byte → Option Action
  | [bus, src] => do
    let toB ← flagOf bus
    let source ← sourceOf src
    some (.select (if toB then .b else .a) source)
  | _ => none

/-- R11: clamped, never refused. -/
def readMatte : List Byte → Option Action
  | [y1, y0, b1, b0, r1, r0] =>
    some (.matte { y := clampNat (number y1 y0) 64 940, cb := clampNat (number b1 b0) 64 960,
                   cr := clampNat (number r1 r0) 64 960 })
  | _ => none

/-- R54. -/
def readNextSet : List Byte → Option Action
  | [f, f1, f2, f3, f4] => (elementSetOf f f1 f2 f3 f4).map .nextSet
  | _ => none

def typeOf (b : Byte) : Option TransitionType :=
  match b.toNat with
  | 0 => some .mix | 1 => some .wipe
  | _ => none

def patternOf (b : Byte) : Option Pattern :=
  match b.toNat with
  | 0 => some .h | 1 => some .v | 2 => some .box | 3 => some .diag
  | _ => none

/-- R51: softness and rate are clamped. -/
def readTransitionSetup : List Byte → Option Action
  | [type, pattern, e1, e0, d1, d0, reverse, flipFlop] => do
    let t ← typeOf type
    let p ← patternOf pattern
    let r ← flagOf reverse
    let x ← flagOf flipFlop
    some (.transitionSetup { type := t, pattern := p, softness := clampNat (number e1 e0) 0 256,
                             rate := clampNat (number d1 d0) 1 999, reverse := r, flipFlop := x })
  | _ => none

/-- R75: clamped, never refused. -/
def readFaderSetup : List Byte → Option Action
  | [l1, l0, u1, u0, w1, w0] =>
    some (.faderSetup (clampNat (number l1 l0) 0 1023) (clampNat (number u1 u0) 3072 4095)
      (clampNat (number w1 w0) 1 16))
  | _ => none

/-- R58: AUTO carries nothing beyond its tag. -/
def readAuto : List Byte → Option Action
  | [] => some .auto
  | _ => none

/-- R62: CUT carries nothing beyond its tag. -/
def readCut : List Byte → Option Action
  | [] => some .cut
  | _ => none

/-- R47: a permutation of the four keyers. -/
def readKeyOrder : List Byte → Option Action
  | [a, b, c, d] => do
    let i ← keyerOf a
    let j ← keyerOf b
    let k ← keyerOf c
    let l ← keyerOf d
    if [i, j, k, l].Nodup then some (.keyOrder [i, j, k, l]) else none
  | _ => none

/-- R38. -/
def readKeySelect : List Byte → Option Action
  | [keyer, bus, src] => do
    let k ← keyerOf keyer
    let toSource ← flagOf bus
    let source ← sourceOf src
    some (.keySelect k (if toSource then .source else .fill) source)
  | _ => none

def keyModeOf (b : Byte) : Option KeyMode :=
  match b.toNat with
  | 0 => some .selfKey | 1 => some .external | 2 => some .linear
  | _ => none

/-- R39: clip and gain are clamped. -/
def readKeySetup : List Byte → Option Action
  | [keyer, mode, c1, c0, g1, g0, invert] => do
    let k ← keyerOf keyer
    let m ← keyModeOf mode
    let i ← flagOf invert
    some (.keySetup k m (clampNat (number c1 c0) 0 1023) (clampNat (number g1 g0) 0 16383) i)
  | _ => none

def maskModeOf (b : Byte) : Option MaskMode :=
  match b.toNat with
  | 0 => some .none | 1 => some .inside | 2 => some .outside
  | _ => none

/-- R41: the coordinates are recorded as received. -/
def readKeyMask : List Byte → Option Action
  | [keyer, mode, l1, l0, r1, r0, t1, t0, b1, b0] => do
    let k ← keyerOf keyer
    let m ← maskModeOf mode
    some (.keyMask k m (number l1 l0) (number r1 r0) (number t1 t0) (number b1 b0))
  | _ => none

def cutActionOf (b : Byte) : Option CutAction :=
  match b.toNat with
  | 0 => some .off | 1 => some .on | 2 => some .toggle
  | _ => none

/-- R44. -/
def readKeyCut : List Byte → Option Action
  | [keyer, action] => do
    let k ← keyerOf keyer
    let a ← cutActionOf action
    some (.keyCut k a)
  | _ => none

/-- R125: register and part set of a STORE, and of a RECALL (R128). -/
def readRegisterParts : List Byte → Option (Register × PartSet)
  | [register, f, g, f1, f2, f3, f4] => do
    let e ← registerOf register
    let p ← partSetOf f g f1 f2 f3 f4
    some (e, p)
  | _ => none

/-- R128. -/
def readRecall (ps : List Byte) : Option Action :=
  (readRegisterParts ps).map fun (e, p) => .recallEffects e p

/-- One parameter read by one of the readers above. -/
def readOne {α : Type} (read : Byte → Option α) : List Byte → Option α
  | [b] => read b
  | _ => none

/-- A request without parameters. -/
def readNothing : List Byte → Option Unit
  | [] => some ()
  | _ => none

/-- R110: scope and drain flag; the group code is read for the scope GROUP alone. -/
def readRelease : List Byte → Option (ReleaseScope × Bool)
  | [scope, group, drain] => do
    let d ← flagOf drain
    match scope.toNat with
    | 0 => (groupOf group).map fun g => (.group g, d)
    | 1 => some (.keyers, d)
    | 2 => some (.all, d)
    | _ => none
  | _ => none

def formatOf (b : Byte) : Option Format :=
  match b.toNat with
  | 0 => some .F0 | 1 => some .F1 | 2 => some .F2 | 3 => some .F3
  | _ => none

/-- R142. -/
def readSetFormat (ps : List Byte) : Option Action := (readOne formatOf ps).map .setFormat

def rangeOf (b : Byte) : Option OutputRange :=
  match b.toNat with
  | 0 => some .wide | 1 => some .legal
  | _ => none

/-- R33. -/
def readSetOutputRange (ps : List Byte) : Option Action := (readOne rangeOf ps).map .setOutputRange

def policyOf (b : Byte) : Option RephasePolicy :=
  match b.toNat with
  | 0 => some .immediate | 1 => some .atIdle
  | _ => none

/-- R115: 0 stays 0, 1..24 becomes 25, a value above 16383 becomes 16383. -/
def clampSweepPeriod (v : Nat) : Nat := if v = 0 then 0 else clampNat v 25 16383

/-- R115. -/
def readSetAging : List Byte → Option Nat
  | [t1, t0] => some (clampSweepPeriod (number t1 t0))
  | _ => none

/-- R73: clamped, never refused. -/
def readFader : List Byte → Option Nat
  | [f1, f0] => some (clampNat (number f1 f0) 0 4095)
  | _ => none

/-- R118: target and attributes; the rank is clamped. -/
def readSetLink : List Byte → Option (Link × LinkAttributes)
  | [target, enabled, r1, r0, g0, g1, g2, g3, g4, g5, g6, g7, reports] => do
    let t ← linkOf target
    let e ← flagOf enabled
    let b0 ← flagOf g0
    let b1 ← flagOf g1
    let b2 ← flagOf g2
    let b3 ← flagOf g3
    let b4 ← flagOf g4
    let b5 ← flagOf g5
    let b6 ← flagOf g6
    let b7 ← flagOf g7
    let r ← flagOf reports
    some (t, { enabled := e, rank := clampNat (number r1 r0) 0 3, barred := ⟨b0, b1, b2, b3, b4, b5, b6, b7⟩,
               reports := r })
  | _ => none

/-- R113: group and link. -/
def readAssignStatic : List Byte → Option (Group × Link)
  | [group, link] => do
    let g ← groupOf group
    let h ← linkOf link
    some (g, h)
  | _ => none

/-- R160: 0 for all records (answered none inside), or a record number. -/
def readClearLog : List Byte → Option (Option Nat)
  | [b] => if b = 0 then some none else (recordOf b).map some
  | _ => none

/-! Writing (R145, R147). -/

/-- One byte. -/
def byteOf (n : Nat) : Byte := BitVec.ofNat 8 n

/-- A number of two bytes, high byte first. -/
def twoBytes (n : Nat) : List Byte := [byteOf (n / 256), byteOf n]

/-- A frame count: four bytes, high byte first. -/
def fourBytes (f : FrameCount) : List Byte :=
  [byteOf (f.toNat / 16777216), byteOf (f.toNat / 65536), byteOf (f.toNat / 256), byteOf f.toNat]

/-- A flag or a membership field. -/
def bit (b : Bool) : Byte := if b then 1 else 0

def Link.code : Link → Byte
  | .L1 => 1 | .L2 => 2 | .L3 => 3 | .L4 => 4

def Keyer.code : Keyer → Byte
  | .K1 => 1 | .K2 => 2 | .K3 => 3 | .K4 => 4

def Group.code : Group → Byte
  | .bkgd => 0 | .trans => 1 | .k1 => 2 | .k2 => 3 | .k3 => 4 | .k4 => 5 | .memory => 6 | .setup => 7

def Source.code : Source → Byte
  | .input .I1 => 1 | .input .I2 => 2 | .input .I3 => 3 | .input .I4 => 4
  | .input .I5 => 5 | .input .I6 => 6 | .input .I7 => 7 | .input .I8 => 8
  | .input .I9 => 9 | .input .I10 => 10 | .input .I11 => 11 | .input .I12 => 12
  | .black => 13 | .matte => 14

def Register.code : Register → Byte
  | .E1 => 1 | .E2 => 2 | .E3 => 3 | .E4 => 4 | .E5 => 5 | .E6 => 6 | .E7 => 7 | .E8 => 8
  | .E9 => 9 | .E10 => 10 | .E11 => 11 | .E12 => 12 | .E13 => 13 | .E14 => 14 | .E15 => 15 | .E16 => 16

def BackgroundBus.code : BackgroundBus → Byte
  | .a => 0 | .b => 1

def KeyBus.code : KeyBus → Byte
  | .fill => 0 | .source => 1

def KeyMode.code : KeyMode → Byte
  | .selfKey => 0 | .external => 1 | .linear => 2

def MaskMode.code : MaskMode → Byte
  | .none => 0 | .inside => 1 | .outside => 2

def TransitionType.code : TransitionType → Byte
  | .mix => 0 | .wipe => 1

def Pattern.code : Pattern → Byte
  | .h => 0 | .v => 1 | .box => 2 | .diag => 3

def TransitionState.code : TransitionState → Byte
  | .idle => 0 | .runAuto => 1 | .runManual => 2

def Direction.code : Direction → Byte
  | .up => 0 | .down => 1

def Format.code : Format → Byte
  | .F0 => 0 | .F1 => 1 | .F2 => 2 | .F3 => 3

def OutputRange.code : OutputRange → Byte
  | .wide => 0 | .legal => 1

def RephasePolicy.code : RephasePolicy → Byte
  | .immediate => 0 | .atIdle => 1

def ReferenceState.code : ReferenceState → Byte
  | .freeRun => 0 | .acquiring => 1 | .rephaseWait => 2 | .locked => 3

def InputStatus.code : InputStatus → Byte
  | .absent => 0 | .wrongFormat => 1 | .misaligned => 2 | .aligned => 3

def ResetRecord.code : ResetRecord → Byte
  | .cold => 0 | .warmLine => 1 | .warmRequest => 2

def HoldingKind.code : HoldingKind → Byte
  | .acquired => 0 | .static => 1

/-- A next-transition set: five membership fields. -/
def ElementSet.bytes (m : ElementSet) : List Byte := bit m.bkgd :: m.keys.toList.map bit

/-- A set of parts: six membership fields in part-code order. -/
def PartSet.bytes (p : PartSet) : List Byte := bit p.bkgd :: bit p.trans :: p.keys.toList.map bit

/-- A set of groups: eight membership fields in group order. -/
def groupSetBytes (g : PerGroup Bool) : List Byte := g.toList.map bit

/-! The group and the kind of a queued request (R86, R103). -/

/-- The control group of a keyer. -/
def Keyer.group : Keyer → Group
  | .K1 => .k1 | .K2 => .k2 | .K3 => .k3 | .K4 => .k4

/-- The group of a queued request; absent for a drained RELEASE (R86). -/
def Action.group : Action → Option Group
  | .select _ _ => some .bkgd
  | .matte _ => some .bkgd
  | .nextSet _ => some .trans
  | .transitionSetup _ => some .trans
  | .faderSetup _ _ _ => some .trans
  | .auto => some .trans
  | .cut => some .trans
  | .keyOrder _ => some .trans
  | .keySelect k _ _ => some (Keyer.group k)
  | .keySetup k _ _ _ _ => some (Keyer.group k)
  | .keyMask k _ _ _ _ _ => some (Keyer.group k)
  | .keyCut k _ => some (Keyer.group k)
  | .recallEffects _ _ => some .memory
  | .release _ => none
  | .setFormat _ => some .setup
  | .setOutputRange _ => some .setup

/-- The kind of a queued request. -/
def Action.kind : Action → Kind
  | .select _ _ => .select
  | .matte _ => .matte
  | .nextSet _ => .nextSet
  | .transitionSetup _ => .transitionSetup
  | .faderSetup _ _ _ => .faderSetup
  | .auto => .auto
  | .cut => .cut
  | .keyOrder _ => .keyOrder
  | .keySelect _ _ _ => .keySelect
  | .keySetup _ _ _ _ _ => .keySetup
  | .keyMask _ _ _ _ _ _ => .keyMask
  | .keyCut _ _ => .keyCut
  | .recallEffects _ _ => .recallEffects
  | .release _ => .release
  | .setFormat _ => .setFormat
  | .setOutputRange _ => .setOutputRange

/-- The queued kinds that the setup lock refuses (R88, check 7). -/
def Action.lockable : Action → Bool
  | .setFormat _ => true
  | .setOutputRange _ => true
  | .select _ _ => false
  | .matte _ => false
  | .nextSet _ => false
  | .transitionSetup _ => false
  | .faderSetup _ _ _ => false
  | .auto => false
  | .cut => false
  | .keyOrder _ => false
  | .keySelect _ _ _ => false
  | .keySetup _ _ _ _ _ => false
  | .keyMask _ _ _ _ _ _ => false
  | .keyCut _ _ => false
  | .recallEffects _ _ => false
  | .release _ => false

/-- The group of an entry (R86). -/
def Entry.group (e : Entry) : Option Group := e.action.group

end Sys2Proof.Machine
end

