-- ==== Sys2Proof/Machine/Flags.lean ====
section
/-! DEFINITION. What is computed from the state and shown: running, tally, report contents, status lines, slot room. -/

namespace Sys2Proof.Machine

/-- A transition is running: RUN_AUTO or RUN_MANUAL (R57). -/
def Bank.running (b : Bank) : Bool :=
  match b.state with
  | .idle => false
  | .runAuto => true
  | .runManual => true

/-- The contents of a BANK STATE report other than the frame count (R71). -/
def Bank.contents (b : Bank) : BankContents :=
  { a := b.a, b := b.b, state := b.state, position := b.position, nextSet := b.nextSet, type := b.setup.type,
    onAir := b.onAir, stack := b.stack, direction := b.fader.direction, live := b.fader.live }

/-! Tally (R97, R98). -/

/-- The keyer's buses that count toward tally select the input: FILL, and SOURCE where the mode is not SELF. -/
def Bank.keyerSelects (b : Bank) (k : Keyer) (i : Input) : Bool :=
  b.fill.get k == .input i || (b.source.get k == .input i && (b.settings.get k).mode != .selfKey)

/-- The program tally of an input (R97). -/
def Bank.programTally (b : Bank) (i : Input) : Bool :=
  b.a == .input i
    || (b.running && b.nextSet.bkgd && b.b == .input i)
    || Keyer.all.any fun k => (b.onAir.get k || (b.running && b.nextSet.keys.get k)) && b.keyerSelects k i

/-- A keyer's on-air state after the pending transition (R98): toggled when it is in the set. -/
def Bank.onAirAfter (b : Bank) (k : Keyer) : Bool := b.onAir.get k ^^ b.nextSet.keys.get k

/-- The preview tally of an input (R98). -/
def Bank.previewTally (b : Bank) (i : Input) : Bool :=
  (if b.nextSet.bkgd then b.b else b.a) == .input i
    || Keyer.all.any fun k => b.onAirAfter k && b.keyerSelects k i

/-- The tally of every input. -/
def Bank.tally (b : Bank) : Tally :=
  { program := .ofFn b.programTally, preview := .ofFn b.previewTally }

/-! Holdings and attributes. -/

/-- The holder of a group, if any (R104). -/
def Holding.holder : Holding → Option Link
  | .free => none
  | .acquired l _ => some l
  | .static l => some l

/-- Holder and kind, which HOLDINGS reports show (R121). -/
def Holding.shown : Holding → Option (Link × HoldingKind)
  | .free => none
  | .acquired l _ => some (l, .acquired)
  | .static l => some (l, .static)

/-- The link that holds a group. -/
def State.holder (s : State) (g : Group) : Option Link := (s.arbiter.holdings.get g).holder

/-- The link holds the group as ACQUIRED. -/
def Holding.acquiredBy (l : Link) : Holding → Bool
  | .acquired h _ => h == l
  | .free => false
  | .static _ => false

/-- The group is in the link's barred set (R117). -/
def State.barredFrom (s : State) (l : Link) (g : Group) : Bool := (s.arbiter.attributes.get l).barred.get g

/-- The link is enabled (R120). -/
def State.enabled (s : State) (l : Link) : Bool := (s.arbiter.attributes.get l).enabled

/-- The link is enabled and has reports on (R117). -/
def State.takesReports (s : State) (l : Link) : Bool :=
  (s.arbiter.attributes.get l).enabled && (s.arbiter.attributes.get l).reports

/-! Phases and lines. -/

/-- Neither a reset nor an initialisation is in progress. -/
def Phase.isRunning : Phase → Bool
  | .running => true
  | .coldReset => false
  | .warmReset _ => false
  | .initialising _ => false

/-- A cold reset is asserted: no boundaries and no pulses (R135). -/
def Phase.isColdReset : Phase → Bool
  | .coldReset => true
  | .running => false
  | .warmReset _ => false
  | .initialising _ => false

/-- The two status lines, the first being the left of R164. -/
def State.statusLines (s : State) : Bool × Bool :=
  match s.setup.phase with
  | .coldReset => (false, false)
  | .warmReset _ => (false, false)
  | .initialising _ => (false, true)
  | .running => (true, s.reference.state == .locked)

/-- The program tally line of an input is active (R99). -/
def State.programLine (s : State) (i : Input) : Bool := s.tally.program.get i

/-- The preview tally line of an input is active (R99). -/
def State.previewLine (s : State) (i : Input) : Bool := s.tally.preview.get i

/-- The STATUS contents as they stand (R146). -/
def State.statusContents (s : State) : StatusContents :=
  { state := s.reference.state, eventFlag := s.reference.eventFlag, inputs := s.ports.status, lock := s.setup.lock,
    record := s.setup.record }

/-! Messages and slots. -/

/-- The report slot a message takes; none for a reply (R153). -/
def Message.slot : Message → Option ReportSlot
  | .done _ _ _ => none
  | .refused _ _ _ => none
  | .bankState _ _ => some .bankState
  | .tally _ _ => some .tally
  | .holdings _ _ => some .holdings
  | .status _ => some .status

/-- The message is a reply. -/
def Message.isReply (m : Message) : Bool := m.slot.isNone

/-- Replies waiting in a transmit queue. -/
def waitingReplies (q : List Message) : Nat := q.countP Message.isReply

/-- Reply slots in use: reserved ones and those of waiting replies (R152). -/
def LinkPort.slotsUsed (p : LinkPort) : Nat := p.reserved + waitingReplies p.transmit

/-- All twelve reply slots are occupied (R152). -/
def LinkPort.slotsFull (p : LinkPort) : Bool := Config.replySlots ≤ p.slotsUsed

/-! Effects registers. -/

/-- The part set a register holds (R124). -/
def Effects.parts (e : Effects) : PartSet :=
  { bkgd := e.bkgd.isSome, trans := e.trans.isSome, keys := e.keys.map Option.isSome }

/-- No part at all. -/
def PartSet.isEmpty (p : PartSet) : Bool := !(p.bkgd || p.trans || Keyer.all.any fun k => p.keys.get k)

/-- The register is empty (R124). -/
def Effects.isEmpty (e : Effects) : Bool := e.parts.isEmpty

end Sys2Proof.Machine
end

