-- ==== Sys2Proof/Machine/Messages.lean ====
section
/-! DEFINITION. The bytes of messages: bodies of replies and reports (R146, R147) and the frame around a body (R145). -/

namespace Sys2Proof.Machine

/-- A BANK STATE body after KIND and TAG (R146). -/
def BankContents.bytes (f : FrameCount) (c : BankContents) : List Byte :=
  fourBytes f ++ [Source.code c.a, Source.code c.b, c.state.code] ++ twoBytes c.position ++ c.nextSet.bytes
    ++ [c.type.code] ++ c.onAir.toList.map bit ++ c.stack.map Keyer.code ++ [c.direction.code, bit c.live]

/-- A program and a preview byte for each input (R146, R147). -/
def Tally.bytes (t : Tally) : List Byte :=
  Input.all.flatMap fun i => [bit (t.program.get i), bit (t.preview.get i)]

/-- The holder byte and the kind byte of a group (R146). -/
def shownBytes : Option (Link × HoldingKind) → List Byte
  | none => [0, 0]
  | some (l, k) => [Link.code l, k.code]

/-- The STATUS contents (R146). -/
def StatusContents.bytes (c : StatusContents) : List Byte :=
  [c.state.code, bit c.eventFlag] ++ c.inputs.toList.map InputStatus.code ++ [bit c.lock, c.record.code]

/-- The body of a message, KIND and TAG first (R146). -/
def Message.body : Message → List Byte
  | .done tag kind data => 0x80 :: tag :: kind :: data
  | .refused tag kind reason => [0x81, tag, kind, reason.code]
  | .bankState f c => 0x90 :: 0 :: BankContents.bytes f c
  | .tally f t => 0x91 :: 0 :: fourBytes f ++ t.bytes
  | .holdings f h => 0x92 :: 0 :: fourBytes f ++ h.toList.flatMap shownBytes
  | .status c => 0x93 :: 0 :: c.bytes

/-- The sum that the check byte completes: LENGTH and every body byte (R145). -/
def bodySum (length : Nat) (body : List Byte) : Nat := length + (body.map BitVec.toNat).sum

/-- The byte that makes LENGTH, the body and itself add up to a multiple of 256 (R145). -/
def checkByte (body : List Byte) : Byte := byteOf (256 - bodySum body.length body % 256)

/-- The frame of a body: START, LENGTH, the body, CHECK (R145). -/
def frameBytes (body : List Byte) : List Byte :=
  0xA7 :: byteOf body.length :: body ++ [checkByte body]

/-- The ten items of a keyer record in the answer to QUERY BANK, in the widths the table lists: 16 bytes (R147). -/
def keyerItems (k : KeySettings) (onAir : Bool) : List Byte :=
  [k.mode.code] ++ twoBytes k.clip ++ twoBytes k.gain ++ [bit k.invert, k.maskMode.code] ++ twoBytes k.left
    ++ twoBytes k.right ++ twoBytes k.top ++ twoBytes k.bottom ++ [bit onAir]

/-- The same ten items in 15 bytes, the two modes sharing one: what the free coding of a 15-byte record starts from (log 34). -/
def keyerPacked (k : KeySettings) (onAir : Bool) : Vector Byte 15 :=
  #v[k.mode.code + 16 * k.maskMode.code, byteOf (k.clip / 256), byteOf k.clip, byteOf (k.gain / 256), byteOf k.gain, bit k.invert,
    byteOf (k.left / 256), byteOf k.left, byteOf (k.right / 256), byteOf k.right, byteOf (k.top / 256), byteOf k.top,
    byteOf (k.bottom / 256), byteOf k.bottom, bit onAir]

/-- A keyer record in the answer to QUERY BANK (R48, R147): its ten items in the widths the table lists, or in the 15 bytes that the
table counts (log 34). -/
def keyerBytes (k : KeySettings) (onAir : Bool) : List Byte :=
  if Config.keyerRecordsOf15 then (Config.keyerRecordCode (keyerPacked k onAir)).toList else keyerItems k onAir

/-- The six fields of a transition setup (R147). -/
def TransitionSetup.bytes (t : TransitionSetup) : List Byte :=
  [t.type.code, t.pattern.code] ++ twoBytes t.softness ++ twoBytes t.rate ++ [bit t.reverse, bit t.flipFlop]

/-- The fader record in the answer to QUERY BANK: 14 bytes (R147). -/
def Fader.bytes (f : Fader) : List Byte :=
  twoBytes f.reading ++ [bit f.valid] ++ twoBytes f.filtered ++ [f.direction.code, bit f.live] ++ twoBytes f.previous
    ++ twoBytes f.lower ++ twoBytes f.upper ++ [byteOf f.weight]

/-- The result data of QUERY BANK, in the order of the table of R147 (log 34). -/
def bankBytes (b : Bank) (r : OutputRange) : List Byte :=
  [Source.code b.a, Source.code b.b]
    ++ (Keyer.all.flatMap fun k => [Source.code (b.fill.get k), Source.code (b.source.get k)])
    ++ twoBytes b.matte.y ++ twoBytes b.matte.cb ++ twoBytes b.matte.cr ++ [r.code]
    ++ (Keyer.all.flatMap fun k => keyerBytes (b.settings.get k) (b.onAir.get k))
    ++ b.stack.map Keyer.code ++ [b.state.code] ++ twoBytes b.position ++ twoBytes b.count
    ++ TransitionSetup.bytes b.setup ++ b.nextSet.bytes ++ b.fader.bytes

/-- The result data of QUERY STATUS (R147). -/
def statusAnswer (c : StatusContents) (u : ReferenceUnit) : List Byte :=
  c.bytes ++ [u.policy.code, u.format.code] ++ fourBytes u.frameCount

/-- The result data of READ LOG for record `n` (R159). -/
def logAnswer (n : Nat) (r : Option LogRecord) (overflow : Bool) : List Byte :=
  match r with
  | none => [byteOf n, 0, 0, 0, 0, 0] ++ fourBytes 0 ++ twoBytes 0 ++ [bit overflow]
  | some r =>
    [byteOf n, 1, Link.code r.link, r.kind, r.reason.code, (r.group.map Group.code).getD 255] ++ fourBytes r.frame
      ++ twoBytes r.repeats ++ [bit overflow]

/-- The five counters in the order of R154. -/
def Counters.bytes (c : Counters) : List Byte :=
  twoBytes c.rxGood ++ twoBytes c.rxBad ++ twoBytes c.rxLost ++ twoBytes c.doneSent ++ twoBytes c.refusedSent

end Sys2Proof.Machine
end

