-- ==== Sys2Proof/Machine/Ops.lean ====
section
/-! DEFINITION. The operations the commands share: posting and answering, the refusal log, reply slots, the arrival checks,
admission, withdrawal and changes of the holdings table. -/

namespace Sys2Proof.Machine

/-- What a command answers. -/
abbrev Result := Host.Outcome State Fault Refusal

/-! Updates of one block. -/

def State.setPorts (s : State) (v : Ports) : State := { s with ports := v }
def State.setBank (s : State) (v : Bank) : State := { s with bank := v }
def State.setCompositor (s : State) (v : Compositor) : State := { s with compositor := v }
def State.setQueue (s : State) (v : List Entry) : State := { s with queue := v }
def State.setTally (s : State) (v : Tally) : State := { s with tally := v }
def State.setReported (s : State) (v : BankContents) : State := { s with reported := v }
def State.setSettled (s : State) (v : Fader) : State := { s with settled := v }
def State.setMemory (s : State) (v : EffectsMemory) : State := { s with memory := v }
def State.setArbiter (s : State) (v : Arbiter) : State := { s with arbiter := v }
def State.setReference (s : State) (v : ReferenceUnit) : State := { s with reference := v }
def State.setLinks (s : State) (v : PerLink LinkPort) : State := { s with links := v }
def State.setSetup (s : State) (v : SetupUnit) : State := { s with setup := v }
def State.setLog (s : State) (v : RefusalLog) : State := { s with log := v }

/-- Change one link's port. -/
def State.modifyLink (s : State) (l : Link) (f : LinkPort → LinkPort) : State :=
  s.setLinks (s.links.modify l f)

/-- Replace the holdings table. -/
def State.setHoldings (s : State) (h : PerGroup Holding) : State :=
  s.setArbiter { s.arbiter with holdings := h }

/-- Change the fader record. -/
def State.setFader (s : State) (f : Fader) : State :=
  s.setBank { s.bank with fader := f }

/-! Counters (R154). -/

/-- A counter increased by 1; at 65535 it stays. -/
def bump (n : Nat) : Nat := if n < Config.counterLimit then n + 1 else n

/-- RX_GOOD counted and the receiver back in HUNT (R150). -/
def LinkPort.goodFrame (p : LinkPort) : LinkPort :=
  { p with receiver := .hunt, counters := { p.counters with rxGood := bump p.counters.rxGood } }

/-- RX_BAD counted and the receiver back in HUNT (R150, R151). -/
def LinkPort.badFrame (p : LinkPort) : LinkPort :=
  { p with receiver := .hunt, counters := { p.counters with rxBad := bump p.counters.rxBad } }

/-- RX_LOST counted (R152). -/
def LinkPort.lost (p : LinkPort) : LinkPort :=
  { p with counters := { p.counters with rxLost := bump p.counters.rxLost } }

/-! The transmit queue (R152, R153). -/

/-- A free reply slot is reserved. -/
def LinkPort.reserve (p : LinkPort) : LinkPort := { p with reserved := p.reserved + 1 }

/-- A reply is posted into its reserved slot and joins the tail of the queue. -/
def LinkPort.reply (p : LinkPort) (m : Message) : LinkPort :=
  { p with reserved := p.reserved - 1, transmit := p.transmit ++ [m] }

/-- A report joins the tail, or replaces the waiting report of its slot in place. -/
def putReport (m : Message) (q : List Message) : List Message :=
  if q.any fun x => x.slot == m.slot then q.map fun x => if x.slot = m.slot then m else x else q ++ [m]

/-- A report is posted to a link. -/
def LinkPort.report (p : LinkPort) (m : Message) : LinkPort := { p with transmit := putReport m p.transmit }

/-- The four report slots are emptied. Only the reports that wait are dropped: one whose transmission has begun has left its slot
and is sent to its end (R153, log 37). -/
def LinkPort.dropReports (p : LinkPort) : LinkPort := { p with transmit := p.transmit.filter Message.isReply }

/-- A report is posted to the wanted links that are enabled and have reports on; none during a restart (R153, R156). -/
def State.postWhere (s : State) (want : Link → Bool) (m : Message) : State :=
  if s.setup.phase.isRunning then
    s.setLinks (.ofFn fun l => if s.takesReports l && want l then (s.links.get l).report m else s.links.get l)
  else s

/-- A report is posted to every link that is enabled and has reports on. -/
def State.postReport (s : State) (m : Message) : State := s.postWhere (fun _ => true) m

/-- A report is posted to one link, where it is enabled and has reports on. -/
def State.postReportTo (s : State) (l : Link) (m : Message) : State := s.postWhere (fun j => j == l) m

/-- The BANK STATE report as the state stands (R100). -/
def State.bankMessage (s : State) : Message := .bankState s.reference.frameCount s.bank.contents

/-- The TALLY report as the state stands (R101). -/
def State.tallyMessage (s : State) : Message := .tally s.reference.frameCount s.tally

/-- The HOLDINGS report with a given frame count (R121). -/
def State.holdingsMessage (s : State) (f : FrameCount) : Message := .holdings f (s.arbiter.holdings.map Holding.shown)

/-- The STATUS report as the state stands (R140, R146). -/
def State.statusMessage (s : State) : Message := .status s.statusContents

/-- A STATUS report is posted. -/
def State.postStatus (s : State) : State := s.postReport s.statusMessage

/-! The refusal log (R158). -/

/-- The record holds the link and the reason. -/
def LogRecord.same (r : LogRecord) (l : Link) (reason : Reason) : Bool := r.link == l && r.reason == reason

/-- The repeat count increased by 1; at 255 it stays. -/
def LogRecord.again (r : LogRecord) : LogRecord :=
  { r with repeats := if r.repeats < Config.repeatLimit then r.repeats + 1 else r.repeats }

/-- The lowest-numbered empty record takes the refusal. -/
def fillFirst (r : LogRecord) : List (Option LogRecord) → List (Option LogRecord)
  | [] => []
  | none :: rest => some r :: rest
  | some x :: rest => some x :: fillFirst r rest

/-- Collapse, fill or overflow, in that order. -/
def RefusalLog.note (g : RefusalLog) (r : LogRecord) : RefusalLog :=
  if g.records.any fun o => o.any fun x => x.same r.link r.reason then
    { g with records := g.records.map fun o => o.map fun x => if x.same r.link r.reason then x.again else x }
  else if g.records.any Option.isNone then { g with records := fillFirst r g.records }
  else { g with overflow := true }

/-! Answering. -/

/-- A request is answered DONE with its result data. -/
def State.answer (s : State) (l : Link) (tag : Byte) (k : Kind) (data : List Byte) : State :=
  s.modifyLink l fun p => p.reply (.done tag k.code data)

/-- A request is answered REFUSED in its reserved slot, and the refusal is logged (R158). -/
def State.refuse (s : State) (l : Link) (tag kind : Byte) (reason : Reason) (group : Option Group) : State :=
  (s.modifyLink l fun p => p.reply (.refused tag kind reason)).setLog
    (s.log.note { link := l, kind := kind, reason := reason, group := group, frame := s.reference.frameCount, repeats := 1 })

/-- The handling of a request that takes a reply slot before any check; without a free one it is discarded (R152). -/
def State.withReplySlot (s : State) (l : Link) (handle : State → State) : State :=
  if (s.links.get l).slotsFull then s.modifyLink l LinkPort.lost else handle (s.modifyLink l LinkPort.reserve)

/-- A refusal of FADER or WARM RESET, which takes a free slot at that moment or is lost (R152). -/
def State.refuseUnreserved (s : State) (l : Link) (tag kind : Byte) (reason : Reason) (group : Option Group) : State :=
  s.withReplySlot l fun s => s.refuse l tag kind reason group

/-- A good frame on a link: nothing while the receivers are held in HUNT (R151); RX_GOOD is counted; on a disabled link no
request is taken (R120). -/
def State.onGoodFrame (s : State) (l : Link) (handle : State → State) : State :=
  if s.setup.phase.isRunning then
    let counted := s.modifyLink l LinkPort.goodFrame
    if s.enabled l then handle counted else counted
  else s

/-- What comes from several links, in ascending link number (R87, R109). -/
def byLink {α : Type} (link : α → Link) (frames : List α) : List α := Link.all.flatMap fun l => frames.filter fun f => link f == l

/-! Arrival checks (R88 to R90). -/

/-- The barred check and the holder check of a group, in that order. -/
def State.groupRefusal (s : State) (l : Link) (g : Group) : Option Reason :=
  if s.barredFrom l g then some .barred
  else match s.holder g with
    | none => none
    | some h => if h = l then none else some .notHolder

/-- The same for an entry's group, skipped where it is absent. -/
def State.entryRefusal (s : State) (l : Link) : Option Group → Option Reason
  | none => none
  | some g => s.groupRefusal l g

/-- The activity mark of a group is set where the link holds it as ACQUIRED (R105). -/
def State.touch (s : State) (l : Link) (g : Group) : State :=
  if (s.arbiter.holdings.get g).acquiredBy l then s.setHoldings (s.arbiter.holdings.set g (.acquired l true)) else s

/-- The same for an entry's group. -/
def State.touchEntry (s : State) (l : Link) : Option Group → State
  | none => s
  | some g => s.touch l g

/-- Checks 4 to 7 of a queued request and its admission to the tail of the Action Queue (R87, R88). -/
def State.admission (s : State) (l : Link) (tag : Byte) (a : Action) : State :=
  match s.entryRefusal l a.group with
  | some reason => s.refuse l tag a.kind.code reason a.group
  | none =>
    if Config.queueCapacity ≤ s.queue.length then s.refuse l tag a.kind.code .queueFull a.group
    else if a.lockable && s.setup.lock then s.refuse l tag a.kind.code .locked a.group
    else (s.setQueue (s.queue ++ [{ link := l, tag := tag, action := a }])).touchEntry l a.group

/-- Checks 2 and 3 of a request of a defined kind: length, then values. `known` is the group a value refusal is logged with. -/
def State.checked {α : Type} (s : State) (k : Kind) (l : Link) (tag : Byte) (ps : List Byte) (known : Option Group)
    (read : List Byte → Option α) (valid : α → State → Bool) (run : α → State → State) : State :=
  if ps.length + 2 = k.bodyLength then
    match read ps with
    | none => s.refuse l tag k.code .badValue known
    | some a => if valid a s then run a s else s.refuse l tag k.code .badValue known
  else s.refuse l tag k.code .badLength none

/-- A queued request from its good frame on. -/
def State.queued (s : State) (k : Kind) (l : Link) (tag : Byte) (ps : List Byte) (known : Option Group)
    (read : List Byte → Option Action) : State :=
  s.withReplySlot l fun s => s.checked k l tag ps known read (fun _ _ => true) fun a s => s.admission l tag a

/-- An immediate request from its good frame on. -/
def State.immediate {α : Type} (s : State) (k : Kind) (l : Link) (tag : Byte) (ps : List Byte) (known : Option Group)
    (read : List Byte → Option α) (valid : α → State → Bool) (run : α → State → State) : State :=
  s.withReplySlot l fun s => s.checked k l tag ps known read valid run

/-- Checks 4, 5 and, for the kinds the lock refuses, 7 of an immediate request of a group (R90, R157). -/
def State.groupChecked (s : State) (k : Kind) (l : Link) (tag : Byte) (g : Group) (lockable : Bool)
    (run : State → State) : State :=
  match s.groupRefusal l g with
  | some reason => s.refuse l tag k.code reason (some g)
  | none => if lockable && s.setup.lock then s.refuse l tag k.code .locked (some g) else run s

/-- An immediate request of a group, answered DONE with its data once carried out and its mark set (R90, R105). -/
def State.immediateGroup {α : Type} (s : State) (k : Kind) (l : Link) (tag : Byte) (ps : List Byte) (g : Group)
    (lockable : Bool) (read : List Byte → Option α) (valid : α → State → Bool) (run : α → State → State)
    (data : α → State → List Byte) : State :=
  s.immediate k l tag ps (some g) read valid fun a s =>
    s.groupChecked k l tag g lockable fun s => ((run a s).touch l g).answer l tag k (data a s)

/-- No value check beyond reading the parameters. -/
def anyValue {α : Type} (_ : α) (_ : State) : Bool := true

/-! Withdrawal and changes of the holdings table (R94, R106). -/

/-- An entry is answered DONE at its application. -/
def State.answerEntry (s : State) (e : Entry) (data : List Byte) : State := s.answer e.link e.tag e.action.kind data

/-- An entry is answered REFUSED, at its application or its withdrawal. -/
def State.refuseEntry (s : State) (e : Entry) (reason : Reason) : State :=
  s.refuse e.link e.tag e.action.kind.code reason e.group

/-- The entries concerned leave the Action Queue together and are answered WITHDRAWN in the order they stood (log 16). -/
def State.withdraw (s : State) (gone : Entry → Bool) : State :=
  (s.queue.filter gone).foldl (fun s e => s.refuseEntry e .withdrawn)
    (s.setQueue (s.queue.filter fun e => !gone e))

/-- The entry is withdrawn by a change of holder of its group: its link loses the group, or another link gains it (R94). -/
def displaced (old new : PerGroup Holding) (e : Entry) : Bool :=
  match e.group with
  | none => false
  | some g =>
    let before := (old.get g).holder
    let after := (new.get g).holder
    before != after && (before == some e.link || (after != none && after != some e.link))

/-- The fader is made not live and its reading invalid (R74). -/
def Fader.forget (f : Fader) : Fader := { f with live := false, valid := false }

/-- The holdings table takes new entries: the waiting entries concerned are withdrawn, with any others `also` names, and the
fader is forgotten where the holder of TRANS changed (R106, steps 1 to 3). -/
def State.moveHoldings (s : State) (new : PerGroup Holding) (also : Entry → Bool) : State :=
  let moved := (s.setHoldings new).withdraw fun e => also e || displaced s.arbiter.holdings new e
  if s.holder .trans = (new.get .trans).holder then moved else moved.setFader moved.bank.fader.forget

/-- A HOLDINGS report is posted where the holder or the kind of a group differs from `old` (R121). -/
def State.reportHoldings (s : State) (old : PerGroup Holding) (f : FrameCount) : State :=
  if old.map Holding.shown = s.arbiter.holdings.map Holding.shown then s else s.postReport (s.holdingsMessage f)

/-- No entry beyond those the change of holdings displaces. -/
def noEntry (_ : Entry) : Bool := false

/-- One change of the holdings table with all its effects but the report (R106, steps 1 to 3). -/
def State.replaceHoldings (s : State) (new : PerGroup Holding) : State := s.moveHoldings new noEntry

/-- One change of the holdings table with all its effects (R106). -/
def State.changeHoldings (s : State) (new : PerGroup Holding) : State :=
  (s.replaceHoldings new).reportHoldings s.arbiter.holdings s.reference.frameCount

/-! The Reference Timing Unit's reports (R140). -/

/-- The unit takes new values; a STATUS report is posted where its state or its event flag changed. -/
def State.updateReference (s : State) (u : ReferenceUnit) : State :=
  let moved := s.setReference u
  if u.state = s.reference.state ∧ u.eventFlag = s.reference.eventFlag then moved else moved.postStatus

end Sys2Proof.Machine
end

