-- ==== Sys2Proof/Machine/Background.lean ====
section
/-! DEFINITION. SELECT and MATTE (R9 to R12): arrival, application at the boundary, and the commands. -/

namespace Sys2Proof.Machine

/-- R9. -/
def State.takeSelect (s : State) (l : Link) (tag : Byte) (ps : List Byte) : State :=
  s.queued .select l tag ps (some .bkgd) readSelect

/-- The bank with a background bus set to a source. -/
def Bank.select (b : Bank) (bus : BackgroundBus) (source : Source) : Bank :=
  match bus with
  | .a => { b with a := source }
  | .b => { b with b := source }

/-- R10. -/
def State.applySelect (s : State) (e : Entry) (bus : BackgroundBus) (source : Source) : State :=
  if s.bank.running && s.bank.nextSet.bkgd then s.refuseEntry e .transitionActive
  else (s.setBank (s.bank.select bus source)).answerEntry e [bus.code, Source.code source]

/-- R11, arrival. -/
def State.takeMatte (s : State) (l : Link) (tag : Byte) (ps : List Byte) : State :=
  s.queued .matte l tag ps (some .bkgd) readMatte

/-- R11, application. -/
def State.applyMatte (s : State) (e : Entry) (colour : Matte) : State :=
  (s.setBank { s.bank with matte := colour }).answerEntry e
    (twoBytes colour.y ++ twoBytes colour.cb ++ twoBytes colour.cr)

end Sys2Proof.Machine
end

