-- ==== Sys2Proof/Machine/Transitions.lean ====
section
/-! DEFINITION. Transitions (R50 to R71) and KEY ORDER (R47): the completion, the auto step, and the requests of group TRANS
but for those of the fader bar. -/

namespace Sys2Proof.Machine

/-! The bank's transition. -/

/-- The fader made not live (R84). -/
def Fader.notLive (f : Fader) : Fader := { f with live := false }

/-- The acts of a completion common to all its causes (R65, 1 to 4; R66). -/
def Bank.complete (b : Bank) : Bank :=
  { b with
    a := if b.nextSet.bkgd then b.b else b.a
    b := if b.nextSet.bkgd then b.a else b.b
    onAir := .ofFn b.onAirAfter
    setup := if b.setup.type = .wipe ∧ b.setup.flipFlop then { b.setup with reverse := !b.setup.reverse } else b.setup
    state := .idle, position := 0, count := 0 }

/-- A completion by AUTO or CUT: the fader is not live afterwards (R65, 5). -/
def Bank.completeNotLive (b : Bank) : Bank :=
  { b.complete with fader := b.fader.notLive }

/-- The counter at which AUTO takes over a manual transition: ceil(P × D / 1024) (R60). -/
def takeoverCount (p d : Nat) : Nat := (p * d + 1023) / 1024

/-- The auto step (R63): n advances, P follows, and the transition completes when n is D or more. -/
def Bank.autoStep (b : Bank) : Bank :=
  let n := b.count + 1
  if b.setup.rate ≤ n then b.completeNotLive
  else { b with count := n, position := n * 1024 / b.setup.rate }

/-! NEXT SET. -/

/-- R54. -/
def State.takeNextSet (s : State) (l : Link) (tag : Byte) (ps : List Byte) : State :=
  s.queued .nextSet l tag ps (some .trans) readNextSet

/-- R55. -/
def State.applyNextSet (s : State) (e : Entry) (members : ElementSet) : State :=
  if s.bank.running then s.refuseEntry e .transitionActive
  else (s.setBank { s.bank with nextSet := members }).answerEntry e members.bytes

/-! TRANSITION SETUP. -/

/-- R51. -/
def State.takeTransitionSetup (s : State) (l : Link) (tag : Byte) (ps : List Byte) : State :=
  s.queued .transitionSetup l tag ps (some .trans) readTransitionSetup

/-- R52. -/
def State.applyTransitionSetup (s : State) (e : Entry) (setup : TransitionSetup) : State :=
  if s.bank.running then s.refuseEntry e .transitionActive
  else (s.setBank { s.bank with setup := setup }).answerEntry e setup.bytes

/-! AUTO. -/

/-- R58. -/
def State.takeAuto (s : State) (l : Link) (tag : Byte) (ps : List Byte) : State :=
  s.queued .auto l tag ps (some .trans) readAuto

/-- RUN_AUTO begun at a count, with the fader not live (R59, R60). -/
def State.startAuto (s : State) (e : Entry) (n : Nat) : State :=
  (s.setBank { s.bank with state := .runAuto, count := n, fader := s.bank.fader.notLive }).answerEntry e
    (TransitionState.runAuto.code :: twoBytes n ++ twoBytes s.bank.setup.rate)

/-- R59, R60, R61. -/
def State.applyAuto (s : State) (e : Entry) : State :=
  match s.bank.state with
  | .idle => s.startAuto e 0
  | .runManual => s.startAuto e (takeoverCount s.bank.position s.bank.setup.rate)
  | .runAuto => s.refuseEntry e .transitionActive

/-! CUT. -/

/-- R62, arrival. -/
def State.takeCut (s : State) (l : Link) (tag : Byte) (ps : List Byte) : State :=
  s.queued .cut l tag ps (some .trans) readCut

/-- R62, application. -/
def State.applyCut (s : State) (e : Entry) : State :=
  (s.setBank s.bank.completeNotLive).answerEntry e
    (s.bank.nextSet.bytes ++ s.bank.complete.onAir.toList.map bit)

/-! KEY ORDER. -/

/-- R47, arrival. -/
def State.takeKeyOrder (s : State) (l : Link) (tag : Byte) (ps : List Byte) : State :=
  s.queued .keyOrder l tag ps (some .trans) readKeyOrder

/-- R47, application. -/
def State.applyKeyOrder (s : State) (e : Entry) (order : List Keyer) : State :=
  if s.bank.running then s.refuseEntry e .transitionActive
  else (s.setBank { s.bank with stack := order }).answerEntry e (order.map Keyer.code)

end Sys2Proof.Machine
end

