-- ==== Sys2Proof/Machine/FaderBar.lean ====
section
/-! DEFINITION. The fader bar (R72 to R85): FADER, FADER SETUP and the fader step. -/

namespace Sys2Proof.Machine

/-! The fader step. -/

/-- The step of the filter: trunc((F − S) × W / 16), at least one unit where F and S differ (R78). -/
def filterStep (f s w : Nat) : Int :=
  let step := (((f : Int) - s) * w).tdiv 16
  if step = 0 then (if s < f then 1 else if f < s then -1 else 0) else step

/-- S after the filter (R78). -/
def filterNext (f s w : Nat) : Nat := ((s : Int) + filterStep f s w).toNat

/-- The direction-adjusted value S' (R79). -/
def adjusted (d : Direction) (s : Nat) : Nat :=
  match d with
  | .up => s
  | .down => 4095 - s

/-- The bar position of a direction-adjusted value between the thresholds L and U (R79). -/
def barOf (s l u : Nat) : Nat :=
  if s ≤ l then 0 else if u ≤ s then 1024 else (s - l) * 1024 / (u - l)

/-- P_bar of the record's S and direction (R79). -/
def Fader.bar (f : Fader) : Nat := barOf (adjusted f.direction f.filtered) f.lower f.upper

/-- The filter runs where F is valid; S holds otherwise (R77, stage 1). -/
def Fader.filter (f : Fader) : Fader :=
  if f.valid then { f with filtered := filterNext f.reading f.filtered f.weight } else f

/-- The pickup test: P_bar equals P, or P lies strictly between previous P_bar and P_bar (R80). -/
def pickedUp (p previous bar : Nat) : Bool :=
  decide (bar = p) || (decide (previous < p) && decide (p < bar)) || (decide (bar < p) && decide (p < previous))

/-- Direction reversed (R82). -/
def Direction.reversed : Direction → Direction
  | .up => .down
  | .down => .up

/-- A completion by the fader (R82): the direction reverses and the re-test decides live. -/
def Bank.completeByFader (b : Bank) : Bank :=
  let f := { b.fader with direction := b.fader.direction.reversed }
  { b.complete with fader := { f with live := decide (f.bar = 0), previous := f.bar } }

/-- The drive stage of a live fader at a bar position (R81 to R83), previous P_bar taken with it. -/
def Bank.drive (b : Bank) (bar : Nat) : Bank :=
  let b := { b with fader := { b.fader with live := true, previous := bar } }
  match b.state with
  | .idle =>
    if bar = 0 then b
    else if bar = 1024 then Bank.completeByFader { b with state := .runManual, position := bar }
    else { b with state := .runManual, position := bar }
  | .runManual =>
    if bar = 0 then { b with state := .idle, position := 0, count := 0 }
    else if bar = 1024 then Bank.completeByFader { b with position := bar }
    else { b with position := bar }
  | .runAuto => b

/-- The fader stages outside RUN_AUTO: filter, bar position, pickup, drive, previous P_bar (R77). -/
def Bank.faderStep (b : Bank) : Bank :=
  let f := b.fader.filter
  let bar := f.bar
  let b := { b with fader := f }
  if f.valid && (f.live || pickedUp b.position f.previous bar) then b.drive bar
  else { b with fader := { f with previous := bar } }

/-- The fader stages in RUN_AUTO: filter, bar position, previous P_bar (R77). -/
def Bank.faderFollow (b : Bank) : Bank :=
  let f := b.fader.filter
  { b with fader := { f with previous := f.bar } }

/-- The transition step of a boundary with the completion it brings (R63, R77). -/
def Bank.step (b : Bank) : Bank :=
  match b.state with
  | .runAuto => b.faderFollow.autoStep
  | .idle => b.faderStep
  | .runManual => b.faderStep

/-! FADER. -/

/-- The reading accepted: F and F valid, and the holder's mark (R73). -/
def State.acceptReading (s : State) (l : Link) (reading : Nat) : State :=
  (s.setFader { s.bank.fader with reading := reading, valid := true }).touch l .trans

/-- R73. -/
def State.takeFader (s : State) (l : Link) (tag : Byte) (ps : List Byte) : State :=
  if ps.length + 2 = Kind.fader.bodyLength then
    match readFader ps with
    | none => s.refuseUnreserved l tag Kind.fader.code .badValue (some .trans)
    | some reading =>
      if s.barredFrom l .trans then s.refuseUnreserved l tag Kind.fader.code .barred (some .trans)
      else match s.holder .trans with
        | none => s.refuseUnreserved l tag Kind.fader.code .notHeld (some .trans)
        | some h =>
          if h = l then s.acceptReading l reading
          else s.refuseUnreserved l tag Kind.fader.code .notHolder (some .trans)
  else s.refuseUnreserved l tag Kind.fader.code .badLength none

/-- FADER. -/
def execFader (l : Link) (tag : Byte) (ps : List Byte) (s : State) : Result :=
  .next (s.onGoodFrame l fun s => s.takeFader l tag ps)

/-! FADER SETUP. -/

/-- R75. -/
def State.takeFaderSetup (s : State) (l : Link) (tag : Byte) (ps : List Byte) : State :=
  s.queued .faderSetup l tag ps (some .trans) readFaderSetup

/-- R76. -/
def State.applyFaderSetup (s : State) (e : Entry) (lower upper weight : Nat) : State :=
  if s.bank.running then s.refuseEntry e .transitionActive
  else (s.setFader { s.bank.fader with lower := lower, upper := upper, weight := weight }).answerEntry e
    (twoBytes lower ++ twoBytes upper ++ twoBytes weight)

end Sys2Proof.Machine
end

