-- ==== Sys2Proof/Machine/Effects.lean ====
section
/-! DEFINITION. The Effects Memory (R124 to R133): STORE, ERASE, RECALL and WALK MEMORY. -/

namespace Sys2Proof.Machine

/-! STORE and ERASE. -/

/-- The named parts captured from the bank as it stands (R126). -/
def Bank.capture (b : Bank) (p : PartSet) : Effects :=
  { bkgd := if p.bkgd then some { a := b.a, b := b.b } else none
    trans := if p.trans then some { nextSet := b.nextSet, setup := b.setup, stack := b.stack } else none
    keys := .ofFn fun k =>
      if p.keys.get k then
        some { settings := b.settings.get k, fill := b.fill.get k, source := b.source.get k, onAir := b.onAir.get k }
      else none }

/-- A register takes new contents. -/
def State.setRegister (s : State) (r : Register) (e : Effects) : State :=
  s.setMemory { s.memory with registers := s.memory.registers.set r e }

/-- R125. -/
def State.takeStore (s : State) (l : Link) (tag : Byte) (ps : List Byte) : State :=
  s.immediateGroup .store l tag ps .memory false readRegisterParts anyValue
    (fun (r, p) s => s.setRegister r (s.bank.capture p))
    (fun (r, p) _ => Register.code r :: p.bytes)

/-- STORE. -/
def execStore (l : Link) (tag : Byte) (ps : List Byte) (s : State) : Result :=
  .next (s.onGoodFrame l fun s => s.takeStore l tag ps)

/-- R127: the answer carries the part set held before. -/
def State.takeErase (s : State) (l : Link) (tag : Byte) (ps : List Byte) : State :=
  s.immediateGroup .erase l tag ps .memory false (readOne registerOf) anyValue
    (fun r s => s.setRegister r emptyEffects)
    (fun r s => Register.code r :: (s.memory.registers.get r).parts.bytes)

/-- ERASE. -/
def execErase (l : Link) (tag : Byte) (ps : List Byte) (s : State) : Result :=
  .next (s.onGoodFrame l fun s => s.takeErase l tag ps)

/-! RECALL. -/

/-- R128. -/
def State.takeRecall (s : State) (l : Link) (tag : Byte) (ps : List Byte) : State :=
  s.queued .recallEffects l tag ps (some .memory) readRecall

/-- A group's part is permitted to a link (R129): not barred, and free or held by the link. -/
def State.permitted (s : State) (l : Link) (g : Group) : Bool :=
  !s.barredFrom l g && (s.holder g == none || s.holder g == some l)

/-- The actual scope: requested, present and permitted (R129). -/
def State.actualScope (s : State) (l : Link) (r : Register) (requested : PartSet) : PartSet :=
  let held := (s.memory.registers.get r).parts
  { bkgd := requested.bkgd && held.bkgd && s.permitted l .bkgd
    trans := requested.trans && held.trans && s.permitted l .trans
    keys := .ofFn fun k => requested.keys.get k && held.keys.get k && s.permitted l (Keyer.group k) }

/-- The BKGD part set as a cut (R130). -/
def Bank.recallBkgd (b : Bank) (on : Bool) (p : Option BkgdPart) : Bank :=
  match p with
  | none => b
  | some p => if on then { b with a := p.a, b := p.b } else b

/-- The TRANS part set as a cut (R130). -/
def Bank.recallTrans (b : Bank) (on : Bool) (p : Option TransPart) : Bank :=
  match p with
  | none => b
  | some p => if on then { b with nextSet := p.nextSet, setup := p.setup, stack := p.stack } else b

/-- A keyer part set as a cut, its mask clamped to the format (R130). -/
def Bank.recallKey (b : Bank) (f : Format) (k : Keyer) (on : Bool) (p : Option KeyPart) : Bank :=
  match p with
  | none => b
  | some p =>
    if on then
      { b with settings := b.settings.set k (clampMask f p.settings), fill := b.fill.set k p.fill,
               source := b.source.set k p.source, onAir := b.onAir.set k p.onAir }
    else b

/-- The parts of the actual scope set as a cut (R130). -/
def Bank.recall (b : Bank) (f : Format) (scope : PartSet) (e : Effects) : Bank :=
  Keyer.all.foldl (fun b k => b.recallKey f k (scope.keys.get k) (e.keys.get k))
    ((b.recallBkgd scope.bkgd e.bkgd).recallTrans scope.trans e.trans)

/-- R129: the register, then the transition, then the scope. -/
def State.applyRecall (s : State) (e : Entry) (r : Register) (requested : PartSet) : State :=
  let held := s.memory.registers.get r
  let scope := s.actualScope e.link r requested
  if held.isEmpty then s.refuseEntry e .empty
  else if s.bank.running then s.refuseEntry e .transitionActive
  else if scope.isEmpty then s.refuseEntry e .empty
  else (s.setBank (s.bank.recall s.reference.format scope held)).answerEntry e (Register.code r :: scope.bytes)

/-! WALK MEMORY. -/

/-- The elements a walk step looks at: all for FIRST and from START, those after the cursor for NEXT, none from END. -/
def walkFrom {α : Type} [DecidableEq α] (all : List α) (cursor : Cursor α) (next : Bool) : List α :=
  if next then
    match cursor with
    | .start => all
    | .on x => (all.dropWhile fun y => y != x).drop 1
    | .finished => []
  else all

/-- The elements found by a walk step, the first being the one it stands on afterwards. -/
def walkFound {α : Type} [DecidableEq α] (all : List α) (cursor : Cursor α) (next : Bool) (here : α → Bool) : List α :=
  (walkFrom all cursor next).filter here

/-- The cursor after a walk step. -/
def walkCursor {α : Type} : List α → Cursor α
  | [] => .finished
  | x :: _ => .on x

/-- The registers found by a walk step (R132). -/
def State.memoryFound (s : State) (l : Link) (next : Bool) : List Register :=
  walkFound Register.all (s.memory.walk.get l) next fun r => !(s.memory.registers.get r).isEmpty

/-- The answer of a WALK MEMORY step: valid, end, register, part set (R132, R147). -/
def State.walkMemoryData (s : State) : List Register → List Byte
  | [] => [0, 1, 0, 0, 0, 0, 0, 0, 0]
  | r :: rest => 1 :: bit rest.isEmpty :: Register.code r :: (s.memory.registers.get r).parts.bytes

/-- R132. -/
def State.takeWalkMemory (s : State) (l : Link) (tag : Byte) (ps : List Byte) : State :=
  s.immediate .walkMemory l tag ps none (readOne walkStepOf) anyValue fun next s =>
    let found := s.memoryFound l next
    (s.setMemory { s.memory with walk := s.memory.walk.set l (walkCursor found) }).answer l tag .walkMemory
      (s.walkMemoryData found)

/-- WALK_MEMORY. -/
def execWalkMemory (l : Link) (tag : Byte) (ps : List Byte) (s : State) : Result :=
  .next (s.onGoodFrame l fun s => s.takeWalkMemory l tag ps)

end Sys2Proof.Machine
end

