-- ==== Sys2Proof/Machine/Holdings.lean ====
section
/-! DEFINITION. Control groups and holdings (R103 to R123): CLAIM, RELEASE, static assignment, ageing, link attributes and the
holdings walk. -/

namespace Sys2Proof.Machine

/-! CLAIM. -/

/-- The three outcomes a CLAIM is answered with (R107, R147). -/
inductive ClaimOutcome where
  | takenFree | alreadyHeld | takenOver (former : Link)
deriving DecidableEq, Repr

/-- The bytes of an outcome: its code and the link taken from (R147). -/
def ClaimOutcome.bytes : ClaimOutcome → List Byte
  | .takenFree => [0, 0]
  | .alreadyHeld => [1, 0]
  | .takenOver h => [2, Link.code h]

/-- What a CLAIM by `l` makes of a holding: its new entry and the outcome; none where it is denied (R107). -/
def State.claimed (s : State) (l : Link) (h : Holding) : Option (Holding × ClaimOutcome) :=
  match h with
  | .free => some (.acquired l true, .takenFree)
  | .acquired h _ =>
    if h = l then some (.acquired l true, .alreadyHeld)
    else if (s.arbiter.attributes.get h).rank < (s.arbiter.attributes.get l).rank then
      some (.acquired l true, .takenOver h)
    else none
  | .static h => if h = l then some (.static h, .alreadyHeld) else none

/-- R107, R108; `change` is the change of the holdings table, with its report or without (R109). -/
def State.carryOutClaim (s : State) (change : State → PerGroup Holding → State) (l : Link) (tag : Byte) (g : Group) : State :=
  if s.barredFrom l g then s.refuse l tag Kind.claim.code .barred (some g)
  else match s.claimed l (s.arbiter.holdings.get g) with
    | none => s.refuse l tag Kind.claim.code .claimDenied (some g)
    | some (h, outcome) =>
      (change s (s.arbiter.holdings.set g h)).answer l tag .claim (Group.code g :: outcome.bytes)

/-- R107. -/
def State.takeClaim (s : State) (change : State → PerGroup Holding → State) (l : Link) (tag : Byte) (ps : List Byte) : State :=
  s.immediate .claim l tag ps none (readOne groupOf) anyValue fun g s => s.carryOutClaim change l tag g

/-- The good frame of a CLAIM. -/
def State.hearClaim (s : State) (change : State → PerGroup Holding → State) (f : ClaimFrame) : State :=
  s.onGoodFrame f.link fun s => s.takeClaim change f.link f.tag f.bytes

/-- CLAIMs that reach the arbiter together: one after another in ascending link number, and one HOLDINGS report after them all
(R109, R121, log 38). -/
def State.hearClaims (s : State) (frames : List ClaimFrame) : State :=
  ((byLink ClaimFrame.link frames).foldl (fun s f => s.hearClaim State.replaceHoldings f) s).reportHoldings s.arbiter.holdings
    s.reference.frameCount

/-- CLAIM. -/
def execClaim (l : Link) (tag : Byte) (params : ClaimParams) (s : State) : Result :=
  .next <|
    match params.together with
    | [] => s.hearClaim State.changeHoldings ⟨l, tag, params.bytes⟩
    | f :: rest => s.hearClaims (⟨l, tag, params.bytes⟩ :: f :: rest)

/-! RELEASE. -/

/-- The group is named by the scope (R110). -/
def ReleaseScope.names : ReleaseScope → Group → Bool
  | .group g, x => x == g
  | .keyers, x => x == .k1 || x == .k2 || x == .k3 || x == .k4
  | .all, _ => true

/-- The actual set: groups of the scope that the link holds as ACQUIRED (R110). -/
def State.actualSet (s : State) (l : Link) (scope : ReleaseScope) : PerGroup Bool :=
  .ofFn fun g => scope.names g && (s.arbiter.holdings.get g).acquiredBy l

/-- The set of groups is empty. -/
def noGroup (set : PerGroup Bool) : Bool := Group.all.all fun g => !set.get g

/-- The holdings table with a set of groups made free. -/
def freed (table : PerGroup Holding) (set : PerGroup Bool) : PerGroup Holding :=
  .ofFn fun g => if set.get g then .free else table.get g

/-- A RELEASE computed and answered at its place: at arrival, or at the application of a drained one (R93, R111). -/
def State.carryOutRelease (s : State) (l : Link) (tag : Byte) (scope : ReleaseScope) : State :=
  let set := s.actualSet l scope
  if noGroup set then s.refuse l tag Kind.release.code .notHeld none
  else (s.changeHoldings (freed s.arbiter.holdings set)).answer l tag .release (groupSetBytes set)

/-- R110 to R112. -/
def State.takeRelease (s : State) (l : Link) (tag : Byte) (ps : List Byte) : State :=
  s.immediate .release l tag ps none readRelease anyValue fun (scope, drain) s =>
    if drain then s.admission l tag (.release scope) else s.carryOutRelease l tag scope

/-- The application of a drained RELEASE (R93). -/
def State.applyRelease (s : State) (e : Entry) (scope : ReleaseScope) : State :=
  s.carryOutRelease e.link e.tag scope

/-! Static holdings. -/

/-- R113: `g` is not in the barred set of the link named. -/
def assignable (p : Group × Link) (s : State) : Bool := !s.barredFrom p.2 p.1

/-- R113. -/
def State.takeAssignStatic (s : State) (l : Link) (tag : Byte) (ps : List Byte) : State :=
  s.immediateGroup .assignStatic l tag ps .setup true readAssignStatic assignable
    (fun (g, h) s => s.changeHoldings (s.arbiter.holdings.set g (.static h)))
    (fun (g, h) _ => [Group.code g, Link.code h])

/-- ASSIGN_STATIC. -/
def execAssignStatic (l : Link) (tag : Byte) (ps : List Byte) (s : State) : Result :=
  .next (s.onGoodFrame l fun s => s.takeAssignStatic l tag ps)

/-- R114, after the lock check. -/
def State.carryOutUnassign (s : State) (l : Link) (tag : Byte) (g : Group) : State :=
  match s.arbiter.holdings.get g with
  | .static k =>
    ((s.changeHoldings (s.arbiter.holdings.set g .free)).touch l .setup).answer l tag .unassignStatic
      [Group.code g, Link.code k]
  | .free => s.refuse l tag Kind.unassignStatic.code .notStatic (some .setup)
  | .acquired _ _ => s.refuse l tag Kind.unassignStatic.code .notStatic (some .setup)

/-- R114. -/
def State.takeUnassignStatic (s : State) (l : Link) (tag : Byte) (ps : List Byte) : State :=
  s.immediate .unassignStatic l tag ps (some .setup) (readOne groupOf) anyValue fun g s =>
    s.groupChecked .unassignStatic l tag .setup true fun s => s.carryOutUnassign l tag g

/-- UNASSIGN_STATIC. -/
def execUnassignStatic (l : Link) (tag : Byte) (ps : List Byte) (s : State) : Result :=
  .next (s.onGoodFrame l fun s => s.takeUnassignStatic l tag ps)

/-! Ageing. -/

/-- The sweep period takes a value and the counter restarts (R115).
The sweep mark stays: a boundary's count and sweep already taken under the former T, or owed under it, stand (log 8). -/
def Arbiter.setPeriod (a : Arbiter) (t : Nat) : Arbiter := { a with sweepPeriod := t, sweepCounter := 0 }

/-- R115. -/
def State.takeSetAging (s : State) (l : Link) (tag : Byte) (ps : List Byte) : State :=
  s.immediateGroup .setAging l tag ps .setup true readSetAging anyValue
    (fun t s => s.setArbiter (s.arbiter.setPeriod t))
    (fun t _ => twoBytes t)

/-- SET_AGING. -/
def execSetAging (l : Link) (tag : Byte) (ps : List Byte) (s : State) : Result :=
  .next (s.onGoodFrame l fun s => s.takeSetAging l tag ps)

/-- What a sweep makes of a holding (R116). -/
def Holding.swept : Holding → Holding
  | .free => .free
  | .acquired l true => .acquired l false
  | .acquired _ false => .free
  | .static l => .static l

/-- A sweep over the eight holdings; its report carries the count of the boundary at which it falls (R116, R121). -/
def State.sweepHoldings (s : State) (f : FrameCount) : State :=
  (s.moveHoldings (s.arbiter.holdings.map Holding.swept) noEntry).reportHoldings s.arbiter.holdings f

/-- The sweep mark takes a value. -/
def State.setSweepMark (s : State) (m : SweepMark) : State := s.setArbiter { s.arbiter with sweepMark := m }

/-- A sweep that a boundary owes is taken (log 8). -/
def State.takeOwedSweep (s : State) : State :=
  if s.arbiter.sweepMark = .owed then (s.sweepHoldings s.reference.frameCount).setSweepMark .none else s

/-- The next boundary brings the counter to T (R115). -/
def Arbiter.sweepNext (a : Arbiter) : Bool := a.sweepPeriod != 0 && decide (a.sweepPeriod ≤ a.sweepCounter + 1)

/-- The coming boundary's count taken ahead of it with its sweep: the counter reaches T and returns to 0 (R115, log 8). -/
def Arbiter.countAhead (a : Arbiter) : Arbiter := { a with sweepCounter := 0, sweepMark := .ahead }

/-- The count of a boundary (R115): the counter rises, and at T it returns to 0 and a sweep is due.
A boundary whose count and sweep have been taken ahead of it is not counted again, also where a SET AGING has come between. -/
def Arbiter.countBoundary (a : Arbiter) : Arbiter :=
  if a.sweepMark = .ahead then { a with sweepMark := .none }
  else if a.sweepPeriod = 0 then { a with sweepCounter := 0, sweepMark := .none }
  else if a.sweepNext then { a with sweepCounter := 0, sweepMark := .owed }
  else { a with sweepCounter := a.sweepCounter + 1, sweepMark := .none }

/-- SWEEP (R116): the sweep owed by the latest boundary, or that of a boundary falling now, taken with its count ahead of its
processing. -/
def execSweep (s : State) : Result :=
  .next <|
    match s.arbiter.sweepMark with
    | .owed => s.takeOwedSweep
    | .ahead => s
    | .none =>
      if s.arbiter.sweepNext && !s.setup.phase.isColdReset then
        let swept := s.sweepHoldings (s.reference.frameCount + 1)
        swept.setArbiter swept.arbiter.countAhead
      else s

/-! SET LINK. -/

/-- The value checks that read the state (R118): a link does not disable itself, and no static holder is barred. -/
def linkSettable (l : Link) (p : Link × LinkAttributes) (s : State) : Bool :=
  !(p.1 == l && !p.2.enabled)
    && Group.all.all fun g => !(p.2.barred.get g && s.arbiter.holdings.get g == .static p.1)

/-- The attributes of a link take a value. -/
def State.setAttributes (s : State) (t : Link) (a : LinkAttributes) : State :=
  s.setArbiter { s.arbiter with attributes := s.arbiter.attributes.set t a }

/-- R119, step 1: the barred set, with the withdrawals and losses of the groups added. -/
def State.setBarred (s : State) (t : Link) (new : PerGroup Bool) : State :=
  let was := s.arbiter.attributes.get t
  let added : PerGroup Bool := .ofFn fun g => new.get g && !was.barred.get g
  let taken : PerGroup Bool := .ofFn fun g => added.get g && (s.arbiter.holdings.get g).acquiredBy t
  (s.setAttributes t { was with barred := new }).moveHoldings (freed s.arbiter.holdings taken) fun e =>
    e.link == t && e.group.any added.get

/-- R119, step 2, on to off: the ACQUIRED holdings end, every entry of the link is withdrawn, its report slots are emptied. -/
def State.disableLink (s : State) (t : Link) : State :=
  let was := s.arbiter.attributes.get t
  let taken : PerGroup Bool := .ofFn fun g => (s.arbiter.holdings.get g).acquiredBy t
  ((s.setAttributes t { was with enabled := false }).moveHoldings (freed s.arbiter.holdings taken) fun e =>
    e.link == t).modifyLink t LinkPort.dropReports

/-- R119, step 2. -/
def State.setEnabled (s : State) (t : Link) (on : Bool) : State :=
  let was := s.arbiter.attributes.get t
  if was.enabled && !on then s.disableLink t else s.setAttributes t { was with enabled := on }

/-- R119, step 3. -/
def State.setRank (s : State) (t : Link) (rank : Nat) : State :=
  s.setAttributes t { s.arbiter.attributes.get t with rank := rank }

/-- R119, step 4. -/
def State.setReports (s : State) (t : Link) (on : Bool) : State :=
  let was := s.arbiter.attributes.get t
  let s := s.setAttributes t { was with reports := on }
  if was.reports && !on then s.modifyLink t LinkPort.dropReports else s

/-- A link newly enabled, or whose reports are turned on, is sent a HOLDINGS report at once and is owed BANK STATE and TALLY at
the next boundary (R102, R119). -/
def State.welcome (s : State) (t : Link) : State :=
  (s.setArbiter { s.arbiter with refresh := s.arbiter.refresh.set t true }).postReportTo t
    (s.holdingsMessage s.reference.frameCount)

/-- R119: the four steps, then the reports. -/
def State.changeLink (s : State) (t : Link) (a : LinkAttributes) : State :=
  let was := s.arbiter.attributes.get t
  let moved := (((s.setBarred t a.barred).setEnabled t a.enabled).setRank t a.rank).setReports t a.reports
  let told := moved.reportHoldings s.arbiter.holdings s.reference.frameCount
  if a.enabled && a.reports && !(was.enabled && was.reports) then told.welcome t else told

/-- R118. -/
def State.takeSetLink (s : State) (l : Link) (tag : Byte) (ps : List Byte) : State :=
  s.immediateGroup .setLink l tag ps .setup true readSetLink (linkSettable l)
    (fun (t, a) s => s.changeLink t a)
    (fun (t, a) _ =>
      Link.code t :: bit a.enabled :: twoBytes a.rank ++ groupSetBytes a.barred ++ [bit a.reports])

/-- SET_LINK. -/
def execSetLink (l : Link) (tag : Byte) (ps : List Byte) (s : State) : Result :=
  .next (s.onGoodFrame l fun s => s.takeSetLink l tag ps)

/-! WALK HOLDINGS. -/

/-- The groups found by a walk step (R122). -/
def State.holdingsFound (s : State) (l : Link) (next : Bool) : List Group :=
  walkFound Group.all (s.arbiter.walk.get l) next fun g => (s.holder g).isSome

/-- Holder, kind and mark of a holding in the walk's answer (R147). -/
def Holding.walkBytes : Holding → List Byte
  | .free => [0, 0, 0]
  | .acquired l m => [Link.code l, HoldingKind.acquired.code, bit m]
  | .static l => [Link.code l, HoldingKind.static.code, 0]

/-- The answer of a WALK HOLDINGS step: valid, end, group, holder, kind, mark (R122, R147). -/
def State.walkHoldingsData (s : State) : List Group → List Byte
  | [] => [0, 1, 0, 0, 0, 0]
  | g :: rest => 1 :: bit rest.isEmpty :: Group.code g :: (s.arbiter.holdings.get g).walkBytes

/-- R122. -/
def State.takeWalkHoldings (s : State) (l : Link) (tag : Byte) (ps : List Byte) : State :=
  s.immediate .walkHoldings l tag ps none (readOne walkStepOf) anyValue fun next s =>
    let found := s.holdingsFound l next
    (s.setArbiter { s.arbiter with walk := s.arbiter.walk.set l (walkCursor found) }).answer l tag .walkHoldings
      (s.walkHoldingsData found)

/-- WALK_HOLDINGS. -/
def execWalkHoldings (l : Link) (tag : Byte) (ps : List Byte) (s : State) : Result :=
  .next (s.onGoodFrame l fun s => s.takeWalkHoldings l tag ps)

end Sys2Proof.Machine
end

