-- ==== Sys2Proof/Machine/Keyers.lean ====
section
/-! DEFINITION. The keyer requests (R37 to R45): KEY SELECT, KEY SETUP, KEY MASK and KEY CUT. -/

namespace Sys2Proof.Machine

/-- The group a keyer request is refused with: that of its keyer number, absent where the number is undefined (R37, log 22). -/
def keyerGroupOf : List Byte → Option Group
  | [] => none
  | b :: _ => (keyerOf b).map Keyer.group

/-! KEY SELECT. -/

/-- R38, arrival. -/
def State.takeKeySelect (s : State) (l : Link) (tag : Byte) (ps : List Byte) : State :=
  s.queued .keySelect l tag ps (keyerGroupOf ps) readKeySelect

/-- The bank with a keyer bus set to a source. -/
def Bank.keySelect (b : Bank) (k : Keyer) (bus : KeyBus) (source : Source) : Bank :=
  match bus with
  | .fill => { b with fill := b.fill.set k source }
  | .source => { b with source := b.source.set k source }

/-- R38, application. -/
def State.applyKeySelect (s : State) (e : Entry) (k : Keyer) (bus : KeyBus) (source : Source) : State :=
  (s.setBank (s.bank.keySelect k bus source)).answerEntry e [Keyer.code k, bus.code, Source.code source]

/-! KEY SETUP. -/

/-- R39. -/
def State.takeKeySetup (s : State) (l : Link) (tag : Byte) (ps : List Byte) : State :=
  s.queued .keySetup l tag ps (keyerGroupOf ps) readKeySetup

/-- R40. -/
def State.applyKeySetup (s : State) (e : Entry) (k : Keyer) (mode : KeyMode) (clip gain : Nat) (invert : Bool) : State :=
  let now := s.bank.settings.get k
  (s.setBank { s.bank with
      settings := s.bank.settings.set k { now with mode := mode, clip := clip, gain := gain, invert := invert } }).answerEntry e
    (Keyer.code k :: mode.code :: twoBytes clip ++ twoBytes gain ++ [bit invert])

/-! KEY MASK. -/

/-- R41. -/
def State.takeKeyMask (s : State) (l : Link) (tag : Byte) (ps : List Byte) : State :=
  s.queued .keyMask l tag ps (keyerGroupOf ps) readKeyMask

/-- R42: the coordinates are clamped against the format standing at the entry's place. -/
def State.applyKeyMask (s : State) (e : Entry) (k : Keyer) (mode : MaskMode) (left right top bottom : Nat) : State :=
  let now := s.bank.settings.get k
  let new := clampMask s.reference.format
    { now with maskMode := mode, left := left, right := right, top := top, bottom := bottom }
  (s.setBank { s.bank with settings := s.bank.settings.set k new }).answerEntry e
    (Keyer.code k :: mode.code :: twoBytes new.left ++ twoBytes new.right ++ twoBytes new.top ++ twoBytes new.bottom)

/-! KEY CUT. -/

/-- R44. -/
def State.takeKeyCut (s : State) (l : Link) (tag : Byte) (ps : List Byte) : State :=
  s.queued .keyCut l tag ps (keyerGroupOf ps) readKeyCut

/-- The on-air state an action gives (R45). -/
def CutAction.result (a : CutAction) (now : Bool) : Bool :=
  match a with
  | .off => false
  | .on => true
  | .toggle => !now

/-- R45. -/
def State.applyKeyCut (s : State) (e : Entry) (k : Keyer) (action : CutAction) : State :=
  if s.bank.running && s.bank.nextSet.keys.get k then s.refuseEntry e .transitionActive
  else
    let air := action.result (s.bank.onAir.get k)
    (s.setBank { s.bank with onAir := s.bank.onAir.set k air }).answerEntry e [Keyer.code k, bit air]

end Sys2Proof.Machine
end

