-- ==== Sys2Proof/Machine/Queries.lean ====
section
/-! DEFINITION. The queries, READ COUNTERS and READ LOG (R99, R143, R147, R155, R159): requests of no group. -/

namespace Sys2Proof.Machine

/-- The bank as QUERY BANK answers it: as after the latest boundary, with the readings accepted since then in F (R48, R85, R91).
Nothing of the bank but the reading, F valid and live of the fader changes between boundaries. -/
def State.queriedBank (s : State) : Bank := { s.bank with fader := { s.settled with reading := s.bank.fader.reading } }

/-- R48, R71, R147. -/
def State.takeQueryBank (s : State) (l : Link) (tag : Byte) (ps : List Byte) : State :=
  s.immediate .queryBank l tag ps none readNothing anyValue fun _ s =>
    s.answer l tag .queryBank (bankBytes s.queriedBank s.compositor.range)

/-- QUERY_BANK. -/
def execQueryBank (l : Link) (tag : Byte) (ps : List Byte) (s : State) : Result :=
  .next (s.onGoodFrame l fun s => s.takeQueryBank l tag ps)

/-- R99, R147. -/
def State.takeQueryTally (s : State) (l : Link) (tag : Byte) (ps : List Byte) : State :=
  s.immediate .queryTally l tag ps none readNothing anyValue fun _ s =>
    s.answer l tag .queryTally s.tally.bytes

/-- QUERY_TALLY. -/
def execQueryTally (l : Link) (tag : Byte) (ps : List Byte) (s : State) : Result :=
  .next (s.onGoodFrame l fun s => s.takeQueryTally l tag ps)

/-- R143, R147. -/
def State.takeQueryStatus (s : State) (l : Link) (tag : Byte) (ps : List Byte) : State :=
  s.immediate .queryStatus l tag ps none readNothing anyValue fun _ s =>
    s.answer l tag .queryStatus (statusAnswer s.statusContents s.reference)

/-- QUERY_STATUS. -/
def execQueryStatus (l : Link) (tag : Byte) (ps : List Byte) (s : State) : Result :=
  .next (s.onGoodFrame l fun s => s.takeQueryStatus l tag ps)

/-- R155: the counters of the target are answered as they stand and zeroed at the same moment. -/
def State.takeReadCounters (s : State) (l : Link) (tag : Byte) (ps : List Byte) : State :=
  s.immediate .readCounters l tag ps none (readOne linkOf) anyValue fun t s =>
    (s.modifyLink t fun p => { p with counters := zeroCounters }).answer l tag .readCounters
      (Link.code t :: (s.links.get t).counters.bytes)

/-- READ_COUNTERS. -/
def execReadCounters (l : Link) (tag : Byte) (ps : List Byte) (s : State) : Result :=
  .next (s.onGoodFrame l fun s => s.takeReadCounters l tag ps)

/-- Record `n`, counted from 1 (R158). -/
def RefusalLog.record (g : RefusalLog) (n : Nat) : Option LogRecord := (g.records[n - 1]?).join

/-- R159. -/
def State.takeReadLog (s : State) (l : Link) (tag : Byte) (ps : List Byte) : State :=
  s.immediate .readLog l tag ps none (readOne recordOf) anyValue fun n s =>
    s.answer l tag .readLog (logAnswer n (s.log.record n) s.log.overflow)

/-- READ_LOG. -/
def execReadLog (l : Link) (tag : Byte) (ps : List Byte) (s : State) : Result :=
  .next (s.onGoodFrame l fun s => s.takeReadLog l tag ps)

end Sys2Proof.Machine
end

