-- ==== Sys2Proof/Machine/Resets.lean ====
section
/-! DEFINITION. Resets (R161 to R163, with the reset columns of every chapter): the two lines and WARM RESET. -/

namespace Sys2Proof.Machine

/-! The warm reset. -/

/-- An ACQUIRED holding is freed; a STATIC one stays (R123). -/
def Holding.warm : Holding → Holding
  | .free => .free
  | .acquired _ _ => .free
  | .static l => .static l

/-- The fader is made not live; F stays valid where TRANS is held STATIC (R72, R84). -/
def Fader.warm (f : Fader) (trans : Holding) : Fader :=
  match trans with
  | .static _ => { f with live := false }
  | .free => f.forget
  | .acquired _ _ => f.forget

/-- What a warm reset does at the moment it is taken, the record and the phase aside (R163). -/
def State.warmRestart (s : State) : State :=
  ((((s.setLinks (.const freshPort)).setQueue []).setFader (s.bank.fader.warm (s.arbiter.holdings.get .trans))).setArbiter
    { s.arbiter with holdings := s.arbiter.holdings.map Holding.warm, walk := .const .start }).setMemory
    { s.memory with walk := .const .start }

/-! WARM RESET. -/

/-- A warm reset taken from a request: initialisation begins at once (R163). -/
def State.requestedRestart (s : State) : State :=
  s.warmRestart.setSetup { s.setup with record := .warmRequest, phase := .initialising false }

/-- R152, R163: unanswered when carried out. -/
def State.takeWarmReset (s : State) (l : Link) (tag : Byte) (ps : List Byte) : State :=
  if ps.length + 2 = Kind.warmReset.bodyLength then
    match s.groupRefusal l .setup with
    | some reason => s.refuseUnreserved l tag Kind.warmReset.code reason (some .setup)
    | none => s.requestedRestart
  else s.refuseUnreserved l tag Kind.warmReset.code .badLength none

/-- WARM_RESET. -/
def execWarmReset (l : Link) (tag : Byte) (ps : List Byte) (s : State) : Result :=
  .next (s.onGoodFrame l fun s => s.takeWarmReset l tag ps)

/-! The lines. -/

/-- COLD_RESETN_ASSERTED: every block takes its cold values; the timer runs on (R135, R161, R162). -/
def execColdResetAsserted (s : State) : Result :=
  .next (coldState { lock := false, record := .cold, coldLine := true, warmLine := s.setup.warmLine, phase := .coldReset }
    s.reference.lastBoundary s.reference.nextBoundary s.pending)

/-- COLD_RESETN_RELEASED: initialisation begins; the timer completes its period at `timerDue` (R161, log 5). -/
def execColdResetReleased (timerDue : Nat) (s : State) : Result :=
  .next <|
    if s.setup.phase.isColdReset then
      (s.setSetup { s.setup with coldLine := false, phase := .initialising true }).setReference
        { s.reference with lastBoundary := timerDue - s.reference.format.period, nextBoundary := timerDue }
    else s.setSetup { s.setup with coldLine := false }

/-- The phase after a warm reset from the line: the initialisation that follows a cold reset keeps its name (R161, R163). -/
def Phase.warmAsserted : Phase → Phase
  | .coldReset => .coldReset
  | .warmReset c => .warmReset c
  | .initialising c => .warmReset c
  | .running => .warmReset false

/-- The initialisation in progress, or the one the line interrupts, follows a cold reset. -/
def Phase.followsCold : Phase → Bool
  | .coldReset => true
  | .warmReset c => c
  | .initialising c => c
  | .running => false

/-- A warm reset taken from the line (R161, R163). -/
def State.lineRestart (s : State) : State :=
  s.warmRestart.setSetup
    { s.setup with
      record := if s.setup.phase.followsCold then s.setup.record else .warmLine
      warmLine := true, phase := s.setup.phase.warmAsserted }

/-- WARM_RESETN_ASSERTED: no warm reset while COLD_RESETn is asserted, nor while the line is asserted already (R161). -/
def execWarmResetAsserted (s : State) : Result :=
  .next (if s.setup.coldLine || s.setup.warmLine then s.setSetup { s.setup with warmLine := true } else s.lineRestart)

/-- The phase after the release of WARM_RESETn: the initialisation of a warm reset taken from it begins (R161, R163). -/
def Phase.warmReleased : Phase → Phase
  | .warmReset c => .initialising c
  | .coldReset => .coldReset
  | .initialising c => .initialising c
  | .running => .running

/-- WARM_RESETN_RELEASED. -/
def execWarmResetReleased (s : State) : Result :=
  .next (s.setSetup { s.setup with warmLine := false, phase := s.setup.phase.warmReleased })

end Sys2Proof.Machine
end

