-- ==== Sys2Proof/Machine/Setup.lean ====
section
/-! DEFINITION. The setup requests not given elsewhere (R33, R140 to R142, R157, R160): SET OUTPUT RANGE, SET FORMAT,
SET REPHASE, CLEAR REFERENCE FLAG, LOCK SETUP and CLEAR LOG. -/

namespace Sys2Proof.Machine

/-! SET OUTPUT RANGE. -/

/-- R33, arrival. -/
def State.takeSetOutputRange (s : State) (l : Link) (tag : Byte) (ps : List Byte) : State :=
  s.queued .setOutputRange l tag ps (some .setup) readSetOutputRange

/-- R33, application. -/
def State.applySetOutputRange (s : State) (e : Entry) (r : OutputRange) : State :=
  (s.setCompositor { s.compositor with range := r }).answerEntry e [r.code]

/-! SET FORMAT. -/

/-- R142, arrival. -/
def State.takeSetFormat (s : State) (l : Link) (tag : Byte) (ps : List Byte) : State :=
  s.queued .setFormat l tag ps (some .setup) readSetFormat

/-- The Input Ports evaluate their statuses against a format (R2, R3). -/
def State.evaluatePorts (s : State) (f : Format) (signals : PerInput InputSignal) : State :=
  s.setPorts { s.ports with status := signals.map (evaluateInput f) }

/-- The unit in FREE_RUN at a new format, its timer restarted at the latest boundary (R142). -/
def ReferenceUnit.reformat (u : ReferenceUnit) (f : Format) : ReferenceUnit :=
  { u with state := .freeRun, goodCount := 0, missingCount := 0, expected := none, format := f,
           nextBoundary := u.lastBoundary + f.period }

/-- Every mask rectangle clamped to the picture of a format (R43). -/
def Bank.clampMasks (b : Bank) (f : Format) : Bank := { b with settings := b.settings.map (clampMask f) }

/-- A change of format (R142): the masks, the statuses and the unit. A STATUS report of the unit's change of state is posted at this
moment, with the statuses of this moment, which a later SET FORMAT of the same boundary may change back (R4, R140, log 39). -/
def State.changeFormat (s : State) (f : Format) (signals : PerInput InputSignal) : State :=
  let s := (s.setBank (s.bank.clampMasks f)).evaluatePorts f signals
  s.updateReference (s.reference.reformat f)

/-- R142, application. -/
def State.applySetFormat (s : State) (e : Entry) (f : Format) (signals : PerInput InputSignal) : State :=
  if s.bank.running then s.refuseEntry e .transitionActive
  else if f = s.reference.format then s.answerEntry e [f.code]
  else (s.changeFormat f signals).answerEntry e [f.code]

/-! SET REPHASE. -/

/-- R141. -/
def State.takeSetRephase (s : State) (l : Link) (tag : Byte) (ps : List Byte) : State :=
  s.immediateGroup .setRephase l tag ps .setup true (readOne policyOf) anyValue
    (fun p s => s.setReference { s.reference with policy := p })
    (fun p _ => [p.code])

/-- SET_REPHASE. -/
def execSetRephase (l : Link) (tag : Byte) (ps : List Byte) (s : State) : Result :=
  .next (s.onGoodFrame l fun s => s.takeSetRephase l tag ps)

/-! CLEAR REFERENCE FLAG. -/

/-- R140: the answer carries the flag as it stood before. -/
def State.takeClearReferenceFlag (s : State) (l : Link) (tag : Byte) (ps : List Byte) : State :=
  s.immediateGroup .clearReferenceFlag l tag ps .setup false readNothing anyValue
    (fun _ s => s.updateReference { s.reference with eventFlag := false })
    (fun _ s => [bit s.reference.eventFlag])

/-- CLEAR_REFERENCE_FLAG. -/
def execClearReferenceFlag (l : Link) (tag : Byte) (ps : List Byte) (s : State) : Result :=
  .next (s.onGoodFrame l fun s => s.takeClearReferenceFlag l tag ps)

/-! LOCK SETUP. -/

/-- The lock is set, with a STATUS report where it was clear (R157). -/
def State.setLock (s : State) : State :=
  if s.setup.lock then s else (s.setSetup { s.setup with lock := true }).postStatus

/-- R157: the answer carries the lock as it stood before. -/
def State.takeLockSetup (s : State) (l : Link) (tag : Byte) (ps : List Byte) : State :=
  s.immediateGroup .lockSetup l tag ps .setup false readNothing anyValue
    (fun _ s => s.setLock)
    (fun _ s => [bit s.setup.lock])

/-- LOCK_SETUP. -/
def execLockSetup (l : Link) (tag : Byte) (ps : List Byte) (s : State) : Result :=
  .next (s.onGoodFrame l fun s => s.takeLockSetup l tag ps)

/-! CLEAR LOG. -/

/-- One record emptied, or all eight with the overflow flag (R160). -/
def RefusalLog.clear (g : RefusalLog) : Option Nat → RefusalLog
  | none => emptyLog
  | some n => { g with records := g.records.set (n - 1) none }

/-- R160. -/
def State.takeClearLog (s : State) (l : Link) (tag : Byte) (ps : List Byte) : State :=
  s.immediateGroup .clearLog l tag ps .setup false readClearLog anyValue
    (fun n s => s.setLog (s.log.clear n))
    (fun n _ => [byteOf (n.getD 0)])

/-- CLEAR_LOG. -/
def execClearLog (l : Link) (tag : Byte) (ps : List Byte) (s : State) : Result :=
  .next (s.onGoodFrame l fun s => s.takeClearLog l tag ps)

end Sys2Proof.Machine
end

