-- ==== Sys2Proof/Machine/Arrivals.lean ====
section
/-! DEFINITION. Good frames by their kind (R149), requests of several links that reach the Action Queue together (R87), and the
commands of the queued kinds. -/

namespace Sys2Proof.Machine

/-! A good frame. -/

/-- R149: a kind absent from the kind table, whatever the length. -/
def State.takeUndefined (s : State) (l : Link) (kind tag : Byte) : State :=
  s.withReplySlot l fun s => s.refuse l tag kind .badKind none

/-- The request of a defined kind goes to the block that owns it (R149). -/
def State.takeKind (s : State) (l : Link) (k : Kind) (tag : Byte) (ps : List Byte) : State :=
  match k with
  | .select => s.takeSelect l tag ps
  | .matte => s.takeMatte l tag ps
  | .nextSet => s.takeNextSet l tag ps
  | .transitionSetup => s.takeTransitionSetup l tag ps
  | .faderSetup => s.takeFaderSetup l tag ps
  | .auto => s.takeAuto l tag ps
  | .cut => s.takeCut l tag ps
  | .fader => s.takeFader l tag ps
  | .keyOrder => s.takeKeyOrder l tag ps
  | .keySelect => s.takeKeySelect l tag ps
  | .keySetup => s.takeKeySetup l tag ps
  | .keyMask => s.takeKeyMask l tag ps
  | .keyCut => s.takeKeyCut l tag ps
  | .store => s.takeStore l tag ps
  | .recallEffects => s.takeRecall l tag ps
  | .erase => s.takeErase l tag ps
  | .claim => s.takeClaim State.changeHoldings l tag ps
  | .release => s.takeRelease l tag ps
  | .queryBank => s.takeQueryBank l tag ps
  | .queryTally => s.takeQueryTally l tag ps
  | .queryStatus => s.takeQueryStatus l tag ps
  | .walkMemory => s.takeWalkMemory l tag ps
  | .walkHoldings => s.takeWalkHoldings l tag ps
  | .readCounters => s.takeReadCounters l tag ps
  | .readLog => s.takeReadLog l tag ps
  | .setFormat => s.takeSetFormat l tag ps
  | .setOutputRange => s.takeSetOutputRange l tag ps
  | .setRephase => s.takeSetRephase l tag ps
  | .setAging => s.takeSetAging l tag ps
  | .setLink => s.takeSetLink l tag ps
  | .assignStatic => s.takeAssignStatic l tag ps
  | .unassignStatic => s.takeUnassignStatic l tag ps
  | .lockSetup => s.takeLockSetup l tag ps
  | .warmReset => s.takeWarmReset l tag ps
  | .clearLog => s.takeClearLog l tag ps
  | .clearReferenceFlag => s.takeClearReferenceFlag l tag ps

/-- A good frame of any kind taken from an enabled link (R149). -/
def State.takeRequest (s : State) (l : Link) (kind tag : Byte) (ps : List Byte) : State :=
  match Kind.ofCode kind with
  | none => s.takeUndefined l kind tag
  | some k => s.takeKind l k tag ps

/-! Requests that reach the queue together. -/

/-- The good frame of a request whose kind waits in the Action Queue; `WellFormed` lets through no other among those that come together. -/
def State.hearFrame (s : State) (f : RequestFrame) : State :=
  match Kind.ofCode f.kind with
  | some k => if k.isQueued then s.onGoodFrame f.link fun s => s.takeKind f.link k f.tag f.bytes else s
  | none => s

/-- A request of one link taken among those of other links that reach the queue with it: all in ascending link number (R87). -/
def State.amid (s : State) (l : Link) (others : List RequestFrame) (own : State → State) : State :=
  let below := fun f : RequestFrame => decide ((Link.code f.link).toNat < (Link.code l).toNat)
  let first := (byLink RequestFrame.link others).filter below
  let last := (byLink RequestFrame.link others).filter fun f => !below f
  last.foldl State.hearFrame (own (first.foldl State.hearFrame s))

/-- The good frame of a queued request, with those that come together with it. -/
def State.arrive (s : State) (l : Link) (params : Params) (take : State → State) : State :=
  s.amid l params.together fun s => s.onGoodFrame l take

/-! The commands of the queued kinds. -/

/-- SELECT. -/
def execSelect (l : Link) (tag : Byte) (params : Params) (s : State) : Result :=
  .next (s.arrive l params fun s => s.takeSelect l tag params.bytes)

/-- MATTE. -/
def execMatte (l : Link) (tag : Byte) (params : Params) (s : State) : Result :=
  .next (s.arrive l params fun s => s.takeMatte l tag params.bytes)

/-- NEXT_SET. -/
def execNextSet (l : Link) (tag : Byte) (params : Params) (s : State) : Result :=
  .next (s.arrive l params fun s => s.takeNextSet l tag params.bytes)

/-- TRANSITION_SETUP. -/
def execTransitionSetup (l : Link) (tag : Byte) (params : Params) (s : State) : Result :=
  .next (s.arrive l params fun s => s.takeTransitionSetup l tag params.bytes)

/-- FADER_SETUP. -/
def execFaderSetup (l : Link) (tag : Byte) (params : Params) (s : State) : Result :=
  .next (s.arrive l params fun s => s.takeFaderSetup l tag params.bytes)

/-- AUTO. -/
def execAuto (l : Link) (tag : Byte) (params : Params) (s : State) : Result :=
  .next (s.arrive l params fun s => s.takeAuto l tag params.bytes)

/-- CUT. -/
def execCut (l : Link) (tag : Byte) (params : Params) (s : State) : Result :=
  .next (s.arrive l params fun s => s.takeCut l tag params.bytes)

/-- KEY_ORDER. -/
def execKeyOrder (l : Link) (tag : Byte) (params : Params) (s : State) : Result :=
  .next (s.arrive l params fun s => s.takeKeyOrder l tag params.bytes)

/-- KEY_SELECT. -/
def execKeySelect (l : Link) (tag : Byte) (params : Params) (s : State) : Result :=
  .next (s.arrive l params fun s => s.takeKeySelect l tag params.bytes)

/-- KEY_SETUP. -/
def execKeySetup (l : Link) (tag : Byte) (params : Params) (s : State) : Result :=
  .next (s.arrive l params fun s => s.takeKeySetup l tag params.bytes)

/-- KEY_MASK. -/
def execKeyMask (l : Link) (tag : Byte) (params : Params) (s : State) : Result :=
  .next (s.arrive l params fun s => s.takeKeyMask l tag params.bytes)

/-- KEY_CUT. -/
def execKeyCut (l : Link) (tag : Byte) (params : Params) (s : State) : Result :=
  .next (s.arrive l params fun s => s.takeKeyCut l tag params.bytes)

/-- RECALL. -/
def execRecall (l : Link) (tag : Byte) (params : Params) (s : State) : Result :=
  .next (s.arrive l params fun s => s.takeRecall l tag params.bytes)

/-- RELEASE. -/
def execRelease (l : Link) (tag : Byte) (params : Params) (s : State) : Result :=
  .next (s.arrive l params fun s => s.takeRelease l tag params.bytes)

/-- SET_FORMAT. -/
def execSetFormat (l : Link) (tag : Byte) (params : Params) (s : State) : Result :=
  .next (s.arrive l params fun s => s.takeSetFormat l tag params.bytes)

/-- SET_OUTPUT_RANGE. -/
def execSetOutputRange (l : Link) (tag : Byte) (params : Params) (s : State) : Result :=
  .next (s.arrive l params fun s => s.takeSetOutputRange l tag params.bytes)

end Sys2Proof.Machine
end

