-- ==== Sys2Proof/Machine/Boundary.lean ====
section
/-! DEFINITION. The work of a frame boundary (R91, R92, R100 to R102, R134) and FRAME_BOUNDARY. -/

namespace Sys2Proof.Machine

/-! Stage 1: the queue. -/

/-- An entry taken from the head of the queue is applied by its own rule (R92). -/
def State.applyEntry (s : State) (signals : PerInput InputSignal) (e : Entry) : State :=
  match e.action with
  | .select bus source => s.applySelect e bus source
  | .matte colour => s.applyMatte e colour
  | .nextSet members => s.applyNextSet e members
  | .transitionSetup setup => s.applyTransitionSetup e setup
  | .faderSetup lower upper weight => s.applyFaderSetup e lower upper weight
  | .auto => s.applyAuto e
  | .cut => s.applyCut e
  | .keyOrder order => s.applyKeyOrder e order
  | .keySelect k bus source => s.applyKeySelect e k bus source
  | .keySetup k mode clip gain invert => s.applyKeySetup e k mode clip gain invert
  | .keyMask k mode left right top bottom => s.applyKeyMask e k mode left right top bottom
  | .keyCut k action => s.applyKeyCut e k action
  | .recallEffects r scope => s.applyRecall e r scope
  | .release scope => s.applyRelease e scope
  | .setFormat f => s.applySetFormat e f signals
  | .setOutputRange r => s.applySetOutputRange e r

/-- The entries are taken from the head one at a time until the queue is empty; an application may shorten the queue, never
lengthen it, so as many rounds as it had entries suffice (R91, stage 1). -/
def State.applyRounds (signals : PerInput InputSignal) : Nat → State → State
  | 0, s => s
  | n + 1, s =>
    match s.queue with
    | [] => s
    | e :: rest => State.applyRounds signals n ((s.setQueue rest).applyEntry signals e)

/-- Stage 1 (R91). -/
def State.applyQueue (s : State) (signals : PerInput InputSignal) : State :=
  State.applyRounds signals s.queue.length s

/-! Around the bank's processing. -/

/-- The timer's next boundary once one is taken at an instant: one period later; in LOCKED the expected time, where this
boundary was not the one of the window expected (R134, R139, log 11). -/
def ReferenceUnit.nextAfter (u : ReferenceUnit) (instant : Nat) : Nat :=
  match u.state, u.expected with
  | .locked, some due => if instant < due then due else instant + u.format.period
  | _, _ => instant + u.format.period

/-- The frame count rises and the timer starts its next period (R134). -/
def ReferenceUnit.boundary (u : ReferenceUnit) (instant : Nat) : ReferenceUnit :=
  { u with frameCount := u.frameCount + 1, lastBoundary := instant, nextBoundary := u.nextAfter instant }

/-- Count, timer, sweep counter and input statuses of a boundary (R2, R115, R134); the runs lost belong to the former frame. -/
def State.openBoundary (s : State) (signals : PerInput InputSignal) (instant : Nat) : State :=
  ((s.setReference (s.reference.boundary instant)).setArbiter s.arbiter.countBoundary).setPorts
    { status := signals.map (evaluateInput s.reference.format), lost := .const [] }

/-- Stages 1 to 4 (R91): the queue, the transition step and completion, the tally. -/
def State.processBank (s : State) (signals : PerInput InputSignal) : State :=
  let applied := s.applyQueue signals
  let stepped := applied.setBank applied.bank.step
  stepped.setTally stepped.bank.tally

/-- Stage 5: BANK STATE and TALLY where they changed, and to the links they are owed (R100 to R102).
A completion that leaves the contents as they were posts no BANK STATE (R67 against R71 and R100, log 35).
The contents become the copy for the next boundary, and the fader record the one that queries see until then (R85, R91). -/
def State.reportBank (s : State) (before : Tally) : State :=
  let bankChanged := decide (s.bank.contents ≠ s.reported)
  let tallyChanged := decide (s.tally ≠ before)
  let owed := s.arbiter.refresh
  let told := (s.postWhere (fun l => bankChanged || owed.get l) s.bankMessage).postWhere
    (fun l => tallyChanged || owed.get l) s.tallyMessage
  ((told.setReported told.bank.contents).setSettled told.bank.fader).setArbiter { told.arbiter with refresh := .const false }

/-- The reports of the boundary that ends initialisation, in their order (R162, R163). -/
def State.endInitialisation (s : State) : State :=
  let up := s.setSetup { s.setup with phase := .running }
  (((up.postReport up.statusMessage).postReport (up.holdingsMessage up.reference.frameCount)).postReport
    up.bankMessage).postReport up.tallyMessage

/-- The end of a boundary: initialisation ends, or a change of an input status is reported (R4, R162); black ends (R34).
The statuses are compared with those before the boundary alone, also where a SET FORMAT has posted others on the way (log 39). -/
def State.closeBoundary (s : State) (before : PerInput InputStatus) : State :=
  let lit := s.setCompositor { s.compositor with blackout := false }
  match s.setup.phase with
  | .initialising _ => lit.endInitialisation
  | .running => if s.ports.status = before then lit else lit.postStatus
  | .warmReset _ => lit
  | .coldReset => lit

/-- A frame boundary at an instant, with everything that falls at it (R91, R134; orders: logs 8 and 9). -/
def State.boundary (s : State) (signals : PerInput InputSignal) (instant : Nat) : State :=
  let s := s.takeOwedSweep
  (((s.openBoundary signals instant).processBank signals).reportBank s.tally).closeBoundary s.ports.status

/-- FRAME_BOUNDARY: the timer takes the boundary at the instant it is due (R134, R139); during a cold reset there is none (R135). -/
def execFrameBoundary (signals : PerInput InputSignal) (s : State) : Result :=
  .next (if s.setup.phase.isColdReset then s else s.boundary signals s.reference.nextBoundary)

end Sys2Proof.Machine
end

