-- ==== Sys2Proof/Machine/Reference.lean ====
section
/-! DEFINITION. Reference pulses (R136 to R140): REFERENCE_PULSE and MISSING_PULSE, and SIGNAL_LOSS of an input (R7). -/

namespace Sys2Proof.Machine

/-- The distance of two instants. -/
def apart (a b : Nat) : Nat := (a - b) + (b - a)

/-- The pulse lies in the window of an expected time, inclusive (R136). -/
def ReferenceUnit.inWindow (u : ReferenceUnit) (due instant : Nat) : Bool :=
  decide (apart instant due ≤ u.format.window)

/-- Two instants lie within 1 line of each other (R137, log 12). -/
def ReferenceUnit.withinLine (u : ReferenceUnit) (a b : Nat) : Bool :=
  decide (apart a b ≤ u.format.line)

/-- The pulse lies within 1 line of the nearest timer boundary, before it or after it (R137, R138). -/
def ReferenceUnit.inPhase (u : ReferenceUnit) (instant : Nat) : Bool :=
  u.withinLine instant u.lastBoundary || u.withinLine instant u.nextBoundary

/-- ACQUIRING with count 1 from a pulse (R137, R138). -/
def ReferenceUnit.acquire (u : ReferenceUnit) (instant : Nat) : ReferenceUnit :=
  { u with state := .acquiring, goodCount := 1, missingCount := 0, expected := some (instant + u.format.period) }

/-- LOCKED at a good pulse without a boundary of its own. The boundary that the pulse lies within 1 line before is still taken
by the timer; otherwise the next one is that of the next window (R137 to R139, log 11). -/
def ReferenceUnit.lockInPhase (u : ReferenceUnit) (instant : Nat) : ReferenceUnit :=
  { u with
    state := .locked, goodCount := 0, missingCount := 0, eventFlag := true
    expected := some (instant + u.format.period)
    nextBoundary := if u.withinLine instant u.lastBoundary then instant + u.format.period else u.nextBoundary }

/-- LOCKED at a re-phase (R138, log 10): the boundary at the pulse follows. -/
def ReferenceUnit.lockAtPulse (u : ReferenceUnit) (instant : Nat) : ReferenceUnit :=
  { u with
    state := .locked, goodCount := 0, missingCount := 0, eventFlag := true
    expected := some (instant + u.format.period) }

/-- REPHASE_WAIT from the eighth good pulse (R137). -/
def ReferenceUnit.waitRephase (u : ReferenceUnit) (instant : Nat) : ReferenceUnit :=
  { u with
    state := .rephaseWait, goodCount := 0, missingCount := 0
    expected := some (instant + u.format.period) }

/-- FREE_RUN from another state (R137 to R139); `loss` sets the event flag (R140). -/
def ReferenceUnit.release (u : ReferenceUnit) (loss : Bool) : ReferenceUnit :=
  { u with
    state := .freeRun, goodCount := 0, missingCount := 0, expected := none
    eventFlag := u.eventFlag || loss }

/-- A good pulse in ACQUIRING (R137). -/
def ReferenceUnit.acquireMore (u : ReferenceUnit) (instant : Nat) : ReferenceUnit :=
  if Config.goodPulses ≤ u.goodCount + 1 then
    if u.inPhase instant then u.lockInPhase instant else u.waitRephase instant
  else { u with goodCount := u.goodCount + 1, expected := some (instant + u.format.period) }

/-- A good pulse in REPHASE_WAIT (R138). At a re-phase it is taken ahead of a SET FORMAT of its boundary (R142, logs 10 and 40). -/
def State.pulseWaiting (s : State) (instant : Nat) (signals : PerInput InputSignal) : State :=
  let u := s.reference
  if u.inPhase instant then s.updateReference (u.lockInPhase instant)
  else if u.policy = .immediate ∨ s.bank.running = false then
    (s.updateReference (u.lockAtPulse instant)).boundary signals instant
  else s.setReference { u with missingCount := 0, expected := some (instant + u.format.period) }

/-- A good pulse in LOCKED (R139): at or before the expected time it takes the boundary of its window, unless the timer has;
after it, it takes none, and the timer's next period is measured from it.
A pulse that takes its boundary is taken ahead of a SET FORMAT applied there (R142, log 40). -/
def State.pulseLocked (s : State) (due instant : Nat) (signals : PerInput InputSignal) : State :=
  let u := s.reference
  let moved := s.setReference
    { u with missingCount := 0, expected := some (instant + u.format.period), nextBoundary := instant + u.format.period }
  if instant ≤ due ∧ u.nextBoundary ≤ due then moved.boundary signals instant else moved

/-- A pulse at the reference input (R136 to R139).
Each pulse of a reference faster than the format restarts ACQUIRING as an irregular one (R137 against R142, log 41). -/
def State.pulse (s : State) (instant : Nat) (signals : PerInput InputSignal) : State :=
  let u := s.reference
  match u.expected with
  | none => s.updateReference (u.acquire instant)
  | some due =>
    if u.inWindow due instant then
      match u.state with
      | .freeRun => s.updateReference (u.acquire instant)
      | .acquiring => s.updateReference (u.acquireMore instant)
      | .rephaseWait => s.pulseWaiting instant signals
      | .locked => s.pulseLocked due instant signals
    else
      match u.state with
      | .freeRun => s.updateReference (u.acquire instant)
      | .acquiring => s.updateReference (u.acquire instant)
      | .rephaseWait => s.updateReference (u.acquire instant)
      | .locked => s

/-- REFERENCE_PULSE: during a cold reset the unit takes no pulses (R135). -/
def execReferencePulse (instant : Nat) (signals : PerInput InputSignal) (s : State) : Result :=
  .next (if s.setup.phase.isColdReset then s else s.pulse instant signals)

/-- The window of an expected time closes with no good pulse in it (R136 to R139). -/
def ReferenceUnit.miss (u : ReferenceUnit) (due : Nat) : ReferenceUnit :=
  match u.state with
  | .freeRun => u
  | .acquiring => u.release false
  | .rephaseWait =>
    if Config.missingPulses ≤ u.missingCount + 1 then u.release false
    else { u with missingCount := u.missingCount + 1, expected := some (due + u.format.period) }
  | .locked =>
    if Config.missingPulses ≤ u.missingCount + 1 then u.release true
    else { u with missingCount := u.missingCount + 1, expected := some (due + u.format.period) }

/-- MISSING_PULSE; where no expected time stands there is no window to close. -/
def execMissingPulse (s : State) : Result :=
  .next <|
    match s.reference.expected with
    | none => s
    | some due => if s.setup.phase.isColdReset then s else s.updateReference (s.reference.miss due)

/-- SIGNAL_LOSS: an input ALIGNED at the boundary loses the raster positions `first` to `last` of the present frame, which are
then delivered as black (R7). -/
def execSignalLoss (i : Input) (first last : Nat) (s : State) : Result :=
  .next <|
    if s.ports.status.get i = .aligned then
      s.setPorts { s.ports with lost := s.ports.lost.modify i fun runs => (first, last) :: runs }
    else s

end Sys2Proof.Machine
end

