-- ==== Sys2Proof/Machine/Links.lean ====
section
/-! DEFINITION. The control links byte by byte (R149 to R154): taking a good frame by its kind, the receiver, and the
transmitter. -/

namespace Sys2Proof.Machine

/-! A good frame. -/

/-- A good frame with its body: KIND, TAG and the parameters (R145). A body has at least two bytes (R150). -/
def State.takeBody (s : State) (l : Link) (body : List Byte) : State :=
  s.onGoodFrame l fun s =>
    match body with
    | kind :: tag :: ps => s.takeRequest l kind tag ps
    | [_] => s
    | [] => s

/-- UNDEFINED_KIND. -/
def execUndefinedKind (l : Link) (kind tag : Byte) (ps : List Byte) (s : State) : Result :=
  .next (s.takeBody l (kind :: tag :: ps))

/-- DISABLED_LINK_FRAME: counted and taken as no request, since the link is disabled (R120). -/
def execDisabledLinkFrame (l : Link) (kind tag : Byte) (ps : List Byte) (s : State) : Result :=
  .next (s.takeBody l (kind :: tag :: ps))

/-! The receiver. -/

/-- A frame in progress is discarded (R150, R151); nothing while the receivers are held in HUNT. -/
def State.discardFrame (s : State) (l : Link) : State :=
  if s.setup.phase.isRunning then s.modifyLink l LinkPort.badFrame else s

/-- FRAME_DISCARDED: the cause does not change what is counted (R150). -/
def execFrameDiscarded (l : Link) (_cause : DiscardCause) (s : State) : Result :=
  .next (s.discardFrame l)

/-- BYTE_GAP_EXPIRY: in HUNT there is no gap timing (R151). -/
def execByteGapExpiry (l : Link) (s : State) : Result :=
  .next (if (s.links.get l).receiver = .hunt then s else s.discardFrame l)

/-- The receiver takes a state. -/
def State.setReceiver (s : State) (l : Link) (r : Receiver) : State :=
  s.modifyLink l fun p => { p with receiver := r }

/-- The receiver after a body byte: CHECK once the body holds LENGTH bytes (R150). -/
def nextReceiver (length : Nat) (received : List Byte) : Receiver :=
  if length ≤ received.length then .check length received else .body length received

/-- A byte with a valid stop bit, by the receiver's state (R150). -/
def State.receiveByte (s : State) (l : Link) (b : Byte) : State :=
  match (s.links.get l).receiver with
  | .hunt => if b = 0xA7 then s.setReceiver l .length else s
  | .length => if 2 ≤ b.toNat ∧ b.toNat ≤ 60 then s.setReceiver l (.body b.toNat []) else s.discardFrame l
  | .body length received => s.setReceiver l (nextReceiver length (received ++ [b]))
  | .check length received =>
    if (bodySum length received + b.toNat) % 256 = 0 then s.takeBody l received else s.discardFrame l

/-- A line error, by the receiver's state (R150). -/
def State.receiveError (s : State) (l : Link) : State :=
  if (s.links.get l).receiver = .hunt then s else s.discardFrame l

/-- BYTE_RECEIVED: during a restart every byte is discarded without being examined or counted (R151). -/
def execByteReceived (l : Link) (b : Byte) (stopValid : Bool) (s : State) : Result :=
  .next <|
    if s.setup.phase.isRunning then (if stopValid then s.receiveByte l b else s.receiveError l) else s

/-! The transmitter. -/

/-- The head of the queue leaves it as its transmission begins, if the line is idle (R153). -/
def LinkPort.begin (p : LinkPort) : LinkPort :=
  match p.sending, p.transmit with
  | none, m :: rest => { p with sending := some m, transmit := rest }
  | none, [] => p
  | some _, _ => p

/-- TRANSMISSION_BEGINS. -/
def execTransmissionBegins (l : Link) (s : State) : Result := .next (s.modifyLink l LinkPort.begin)

/-- The counters once a message has been sent whole (R154). -/
def Counters.sent (c : Counters) (m : Message) : Counters :=
  match m with
  | .done _ _ _ => { c with doneSent := bump c.doneSent }
  | .refused _ _ _ => { c with refusedSent := bump c.refusedSent }
  | .bankState _ _ => c
  | .tally _ _ => c
  | .holdings _ _ => c
  | .status _ => c

/-- The message in progress has been sent. -/
def LinkPort.finish (p : LinkPort) : LinkPort :=
  match p.sending with
  | none => p
  | some m => { p with sending := none, counters := p.counters.sent m }

/-- TRANSMISSION_ENDS. -/
def execTransmissionEnds (l : Link) (s : State) : Result := .next (s.modifyLink l LinkPort.finish)

end Sys2Proof.Machine
end

