-- ==== Sys2Proof/Machine/Dispatch.lean ====
section
/-! DEFINITION. One arm per command, each a call of its own meaning. -/

namespace Sys2Proof.Machine

def exec (i : Instr) (s : State) : Host.Outcome State Fault Refusal :=
  match i with
  | .frameBoundary signals => Sys2Proof.Machine.execFrameBoundary signals s
  | .sweep => Sys2Proof.Machine.execSweep s
  | .referencePulse instant signals => Sys2Proof.Machine.execReferencePulse instant signals s
  | .missingPulse => Sys2Proof.Machine.execMissingPulse s
  | .signalLoss input first last => Sys2Proof.Machine.execSignalLoss input first last s
  | .select link tag params => Sys2Proof.Machine.execSelect link tag params s
  | .matte link tag params => Sys2Proof.Machine.execMatte link tag params s
  | .nextSet link tag params => Sys2Proof.Machine.execNextSet link tag params s
  | .transitionSetup link tag params => Sys2Proof.Machine.execTransitionSetup link tag params s
  | .faderSetup link tag params => Sys2Proof.Machine.execFaderSetup link tag params s
  | .auto link tag params => Sys2Proof.Machine.execAuto link tag params s
  | .cut link tag params => Sys2Proof.Machine.execCut link tag params s
  | .fader link tag params => Sys2Proof.Machine.execFader link tag params s
  | .keyOrder link tag params => Sys2Proof.Machine.execKeyOrder link tag params s
  | .keySelect link tag params => Sys2Proof.Machine.execKeySelect link tag params s
  | .keySetup link tag params => Sys2Proof.Machine.execKeySetup link tag params s
  | .keyMask link tag params => Sys2Proof.Machine.execKeyMask link tag params s
  | .keyCut link tag params => Sys2Proof.Machine.execKeyCut link tag params s
  | .store link tag params => Sys2Proof.Machine.execStore link tag params s
  | .recallEffects link tag params => Sys2Proof.Machine.execRecall link tag params s
  | .erase link tag params => Sys2Proof.Machine.execErase link tag params s
  | .claim link tag params => Sys2Proof.Machine.execClaim link tag params s
  | .release link tag params => Sys2Proof.Machine.execRelease link tag params s
  | .queryBank link tag params => Sys2Proof.Machine.execQueryBank link tag params s
  | .queryTally link tag params => Sys2Proof.Machine.execQueryTally link tag params s
  | .queryStatus link tag params => Sys2Proof.Machine.execQueryStatus link tag params s
  | .walkMemory link tag params => Sys2Proof.Machine.execWalkMemory link tag params s
  | .walkHoldings link tag params => Sys2Proof.Machine.execWalkHoldings link tag params s
  | .readCounters link tag params => Sys2Proof.Machine.execReadCounters link tag params s
  | .readLog link tag params => Sys2Proof.Machine.execReadLog link tag params s
  | .setFormat link tag params => Sys2Proof.Machine.execSetFormat link tag params s
  | .setOutputRange link tag params => Sys2Proof.Machine.execSetOutputRange link tag params s
  | .setRephase link tag params => Sys2Proof.Machine.execSetRephase link tag params s
  | .setAging link tag params => Sys2Proof.Machine.execSetAging link tag params s
  | .setLink link tag params => Sys2Proof.Machine.execSetLink link tag params s
  | .assignStatic link tag params => Sys2Proof.Machine.execAssignStatic link tag params s
  | .unassignStatic link tag params => Sys2Proof.Machine.execUnassignStatic link tag params s
  | .lockSetup link tag params => Sys2Proof.Machine.execLockSetup link tag params s
  | .warmReset link tag params => Sys2Proof.Machine.execWarmReset link tag params s
  | .clearLog link tag params => Sys2Proof.Machine.execClearLog link tag params s
  | .clearReferenceFlag link tag params => Sys2Proof.Machine.execClearReferenceFlag link tag params s
  | .undefinedKind link kind tag params => Sys2Proof.Machine.execUndefinedKind link kind tag params s
  | .disabledLinkFrame link kind tag params => Sys2Proof.Machine.execDisabledLinkFrame link kind tag params s
  | .frameDiscarded link cause => Sys2Proof.Machine.execFrameDiscarded link cause s
  | .byteGapExpiry link => Sys2Proof.Machine.execByteGapExpiry link s
  | .transmissionBegins link => Sys2Proof.Machine.execTransmissionBegins link s
  | .transmissionEnds link => Sys2Proof.Machine.execTransmissionEnds link s
  | .coldResetAsserted => Sys2Proof.Machine.execColdResetAsserted s
  | .coldResetReleased timerDue => Sys2Proof.Machine.execColdResetReleased timerDue s
  | .warmResetAsserted => Sys2Proof.Machine.execWarmResetAsserted s
  | .warmResetReleased => Sys2Proof.Machine.execWarmResetReleased s
  | .byteReceived link byte stopValid => Sys2Proof.Machine.execByteReceived link byte stopValid s

end Sys2Proof.Machine
end

