-- ==== Sys2Proof/Machine/Picture.lean ====
section
/-! DEFINITION. The arithmetic of the pictures (R1, R7, R13 to R34).
The two video outputs are functions of the state after the latest boundary and of the samples that arrive in the frame (log 20). -/

namespace Sys2Proof.Machine

/-- A component of a 4:2:2 picture (R13). -/
inductive Component where
  | y | cb | cr
deriving DecidableEq, Repr

/-- The samples that arrive at the inputs during a frame: input, component, x, y of the bank frame. -/
abbrev RawSamples := Input → Component → Nat → Nat → Nat

/-! The mix (R16). -/

/-- mix(U, V, c) = U + floor(((V - U) × c + 512) / 1024), the floor toward minus infinity. -/
def mix (u v c : Int) : Int := u + ((v - u) * c + 512) / 1024

/-! The Source Selector (R7). -/

/-- Black (R13). -/
def blackSample : Component → Int
  | .y => 64
  | .cb => 512
  | .cr => 512

/-- The matte colour at every pixel (R7, R8). -/
def Matte.sample (m : Matte) : Component → Int
  | .y => m.y
  | .cb => m.cb
  | .cr => m.cr

/-- The column whose coefficients govern a sample: its own for luma, the even one of its pair for chroma (R13). -/
def coSite : Component → Nat → Nat
  | .y, x => x
  | .cb, x => x - x % 2
  | .cr, x => x - x % 2

/-- The ingress clamp (R1). -/
def ingress (v : Nat) : Int := clampInt v 4 1019

/-- The port received the sample position in this frame (R7). -/
def Ports.received (p : Ports) (f : Format) (i : Input) (x y : Nat) : Bool :=
  (p.lost.get i).all fun run => decide (y * f.width + x < run.1) || decide (run.2 < y * f.width + x)

/-- The sample a bus with a given selection delivers (R7). -/
def State.deliver (s : State) (raw : RawSamples) (src : Source) (c : Component) (x y : Nat) : Int :=
  match src with
  | .black => blackSample c
  | .matte => s.bank.matte.sample c
  | .input i =>
    if s.ports.status.get i = .aligned ∧ s.ports.received s.reference.format i (coSite c x) y
    then ingress (raw i c (coSite c x) y)
    else blackSample c

/-! The Pattern Generator (R18 to R21). -/

/-- The wipe ramp w(x, y) (R18). -/
def wipeRamp (f : Format) (p : Pattern) (x y : Nat) : Nat :=
  match p with
  | .h => x * 1024 / f.width
  | .v => y * 1024 / f.height
  | .box =>
    let dx := (2 * (x : Int) - (f.width - 1)).natAbs
    let dy := (2 * (y : Int) - (f.height - 1)).natAbs
    max (dx * 1024 / f.width) (dy * 1024 / f.height)
  | .diag => (x * f.height + y * f.width) * 512 / (f.width * f.height)

/-- The ramp after reverse (R19). -/
def reversedRamp (reverse : Bool) (w : Nat) : Nat := if reverse then 1023 - w else w

/-- The stretched position Q (R20). -/
def stretched (p e : Nat) : Nat := p * (1024 + e) / 1024

/-- The wipe coefficient m of a ramp value, a position and a softness (R20). -/
def wipeCoefficient (w p e : Nat) : Int :=
  if e = 0 then (if w < p then 1024 else 0)
  else clampInt (((stretched p e : Int) - w) * 1024 / e) 0 1024

/-- The transition coefficient t(x, y) of a running transition (R21). -/
def Bank.coefficient (b : Bank) (f : Format) (x y : Nat) : Int :=
  match b.setup.type with
  | .mix => b.position
  | .wipe => wipeCoefficient (reversedRamp b.setup.reverse (wipeRamp f b.setup.pattern x y)) b.position b.setup.softness

/-! The Keyers (R22 to R28). -/

/-- The bus that supplies Ys (R22). -/
def Bank.keySource (b : Bank) (k : Keyer) : Source :=
  match (b.settings.get k).mode with
  | .selfKey => b.fill.get k
  | .external => b.source.get k
  | .linear => b.source.get k

/-- The base key of a luma Ys (R23, R24). -/
def KeySettings.baseKey (k : KeySettings) (ys : Int) : Int :=
  match k.mode with
  | .selfKey => clampInt ((ys - k.clip) * k.gain / 256) 0 1024
  | .external => clampInt ((ys - k.clip) * k.gain / 256) 0 1024
  | .linear => clampInt ((ys - 64) * 1024 / 876) 0 1024

/-- The pixel lies inside the mask rectangle (R26). -/
def KeySettings.inMask (k : KeySettings) (x y : Nat) : Bool :=
  decide (k.left ≤ x) && decide (x ≤ k.right) && decide (k.top ≤ y) && decide (y ≤ k.bottom)

/-- The mask keeps the key at the pixel (R26). -/
def KeySettings.maskKeeps (k : KeySettings) (x y : Nat) : Bool :=
  match k.maskMode with
  | .none => true
  | .inside => k.inMask x y
  | .outside => !k.inMask x y

/-- The key of a luma Ys at a pixel: base key, then invert, then mask (R23 to R26). -/
def KeySettings.key (k : KeySettings) (ys : Int) (x y : Nat) : Int :=
  if k.maskKeeps x y then (if k.invert then 1024 - k.baseKey ys else k.baseKey ys) else 0

/-- The key signal of a keyer at a luma position (R22 to R26). -/
def State.keySignal (s : State) (raw : RawSamples) (k : Keyer) (x y : Nat) : Int :=
  (s.bank.settings.get k).key (s.deliver raw (s.bank.keySource k) .y x y) x y

/-- The layer level of a keyer in program (R27). -/
def Bank.layerLevel (b : Bank) (f : Format) (k : Keyer) (x y : Nat) : Int :=
  if b.nextSet.keys.get k && b.running then
    if b.onAir.get k then 1024 - b.coefficient f x y else b.coefficient f x y
  else if b.onAir.get k then 1024 else 0

/-- The layer level of a keyer in preview (R31). -/
def Bank.previewLevel (b : Bank) (k : Keyer) : Int := if b.onAirAfter k then 1024 else 0

/-- The effective key (R28). -/
def effectiveKey (k level : Int) : Int := k * level / 1024

/-! The Compositor (R29 to R34). -/

/-- The program background (R29). -/
def State.programBackground (s : State) (raw : RawSamples) (c : Component) (x y : Nat) : Int :=
  if s.bank.running && s.bank.nextSet.bkgd then
    mix (s.deliver raw s.bank.a c x y) (s.deliver raw s.bank.b c x y)
      (s.bank.coefficient s.reference.format (coSite c x) y)
  else s.deliver raw s.bank.a c x y

/-- The preview background (R31). -/
def State.previewBackground (s : State) (raw : RawSamples) (c : Component) (x y : Nat) : Int :=
  s.deliver raw (if s.bank.nextSet.bkgd then s.bank.b else s.bank.a) c x y

/-- The key layers laid over a background in stack order, bottom first, each at a level (R30). -/
def State.layers (s : State) (raw : RawSamples) (level : Keyer → Int) (c : Component) (x y : Nat) (background : Int) : Int :=
  s.bank.stack.foldl
    (fun out k => mix out (s.deliver raw (s.bank.fill.get k) c x y)
      (effectiveKey (s.keySignal raw k (coSite c x) y) (level k)))
    background

/-- The output clamp (R32). -/
def outputClamp (r : OutputRange) (c : Component) (v : Int) : Int :=
  match r, c with
  | .wide, .y => clampInt v 4 1019
  | .wide, .cb => clampInt v 4 1019
  | .wide, .cr => clampInt v 4 1019
  | .legal, .y => clampInt v 64 940
  | .legal, .cb => clampInt v 64 960
  | .legal, .cr => clampInt v 64 960

/-- The composed program sample before the output clamp (R30). -/
def State.composedProgram (s : State) (raw : RawSamples) (c : Component) (x y : Nat) : Int :=
  s.layers raw (fun k => s.bank.layerLevel s.reference.format k (coSite c x) y) c x y (s.programBackground raw c x y)

/-- The composed preview sample before the output clamp (R31). -/
def State.composedPreview (s : State) (raw : RawSamples) (c : Component) (x y : Nat) : Int :=
  s.layers raw s.bank.previewLevel c x y (s.previewBackground raw c x y)

/-- The program output (R32, R34). -/
def State.programSample (s : State) (raw : RawSamples) (c : Component) (x y : Nat) : Int :=
  if s.compositor.blackout then blackSample c else outputClamp s.compositor.range c (s.composedProgram raw c x y)

/-- The preview output (R32, R34). -/
def State.previewSample (s : State) (raw : RawSamples) (c : Component) (x y : Nat) : Int :=
  if s.compositor.blackout then blackSample c else outputClamp s.compositor.range c (s.composedPreview raw c x y)

end Sys2Proof.Machine
end

