-- ==== Sys2Proof/WellFormed.lean ====
section
/-! DEFINITION. Which commands the outside can send: the checks that the operands of a command meet on the real part. -/

namespace Sys2Proof

/-- The parameters of a body: LENGTH lies in 2..60 and counts KIND and TAG (R145, R150). -/
def paramsFit (params : List Byte) : Bool := decide (params.length ≤ 58)

/-- The conditions found at a boundary: every frame rate is a fraction (R2). -/
def signalsFit (signals : PerInput InputSignal) : Bool := Input.all.all fun i => (signals.get i).rateDen != 0

/-- Requests that reach the Action Queue together come from different links, and each is of a queued kind (R87). -/
def arrivalsFit (link : Link) (params : Params) : Bool :=
  paramsFit params.bytes && decide (link :: params.together.map RequestFrame.link).Nodup
    && params.together.all fun f => paramsFit f.bytes && (Machine.Kind.ofCode f.kind).any Machine.Kind.isQueued

/-- CLAIMs that reach the arbiter together come from different links (R109). -/
def claimsFit (frames : List ClaimFrame) : Bool :=
  (frames.all fun f => paramsFit f.bytes) && decide (frames.map ClaimFrame.link).Nodup

/-- The operands of a command are ones the outside can give it. -/
def WellFormed : Instr → Bool
  | .frameBoundary signals => signalsFit signals
  | .sweep => true
  | .referencePulse _ signals => signalsFit signals
  | .missingPulse => true
  | .signalLoss _ first last => decide (first ≤ last)
  | .select link _ params => arrivalsFit link params
  | .matte link _ params => arrivalsFit link params
  | .nextSet link _ params => arrivalsFit link params
  | .transitionSetup link _ params => arrivalsFit link params
  | .faderSetup link _ params => arrivalsFit link params
  | .auto link _ params => arrivalsFit link params
  | .cut link _ params => arrivalsFit link params
  | .fader _ _ params => paramsFit params
  | .keyOrder link _ params => arrivalsFit link params
  | .keySelect link _ params => arrivalsFit link params
  | .keySetup link _ params => arrivalsFit link params
  | .keyMask link _ params => arrivalsFit link params
  | .keyCut link _ params => arrivalsFit link params
  | .store _ _ params => paramsFit params
  | .recallEffects link _ params => arrivalsFit link params
  | .erase _ _ params => paramsFit params
  | .claim link tag params => claimsFit (⟨link, tag, params.bytes⟩ :: params.together)
  | .release link _ params => arrivalsFit link params
  | .queryBank _ _ params => paramsFit params
  | .queryTally _ _ params => paramsFit params
  | .queryStatus _ _ params => paramsFit params
  | .walkMemory _ _ params => paramsFit params
  | .walkHoldings _ _ params => paramsFit params
  | .readCounters _ _ params => paramsFit params
  | .readLog _ _ params => paramsFit params
  | .setFormat link _ params => arrivalsFit link params
  | .setOutputRange link _ params => arrivalsFit link params
  | .setRephase _ _ params => paramsFit params
  | .setAging _ _ params => paramsFit params
  | .setLink _ _ params => paramsFit params
  | .assignStatic _ _ params => paramsFit params
  | .unassignStatic _ _ params => paramsFit params
  | .lockSetup _ _ params => paramsFit params
  | .warmReset _ _ params => paramsFit params
  | .clearLog _ _ params => paramsFit params
  | .clearReferenceFlag _ _ params => paramsFit params
  | .undefinedKind _ kind _ params => paramsFit params && (Machine.Kind.ofCode kind).isNone
  | .disabledLinkFrame _ _ _ params => paramsFit params
  | .frameDiscarded _ _ => true
  | .byteGapExpiry _ => true
  | .transmissionBegins _ => true
  | .transmissionEnds _ => true
  | .coldResetAsserted => true
  | .coldResetReleased _ => true
  | .warmResetAsserted => true
  | .warmResetReleased => true
  | .byteReceived _ _ _ => true

end Sys2Proof
end

