-- ==== Sys2Proof/Safety.lean ====
section
/-! DEFINITION. What always holds of the part: the laws the spec states of it and the ranges its tables give, as invariants;
and the shapes of a next state that statements are written with. -/

namespace Sys2Proof.Machine

/-! Holdings, queue and fader (R74, R86, R104, R117 to R119). -/

/-- A link may act on a group: not barred from it, and the group free or its own (R88, R89). -/
def State.MayUse (s : State) (l : Link) (g : Group) : Prop :=
  s.barredFrom l g = false ∧ (s.holder g = none ∨ s.holder g = some l)

/-- The laws that tie the queue and the fader to the holdings table. -/
structure State.HoldingsLaw (s : State) : Prop where
  /-- R86: an entry's group is free or held by the entry's link; and R119: it is not barred from it -/
  entriesMay : ∀ e ∈ s.queue, ∀ g, e.group = some g → s.MayUse e.link g
  /-- R119, R120: an entry's link is enabled -/
  entriesEnabled : ∀ e ∈ s.queue, s.enabled e.link = true
  /-- R118, R119: a holder is not barred from its group -/
  holdersAllowed : ∀ g l, s.holder g = some l → s.barredFrom l g = false
  /-- R119: a disabled link holds nothing as ACQUIRED -/
  acquiredEnabled : ∀ g l m, s.arbiter.holdings.get g = .acquired l m → s.enabled l = true
  /-- R73, R74: a valid reading was sent by the present holder of TRANS -/
  readingHeld : s.bank.fader.valid = true → s.holder .trans ≠ none
  /-- R74, R77: a live fader has a valid reading -/
  liveValid : s.bank.fader.live = true → s.bank.fader.valid = true
  /-- R115, R117: the attributes and the sweep are in range -/
  rankRange : ∀ l, (s.arbiter.attributes.get l).rank ≤ 3
  periodRange : s.arbiter.sweepPeriod = 0 ∨ (25 ≤ s.arbiter.sweepPeriod ∧ s.arbiter.sweepPeriod ≤ 16383)
  counterRange : s.arbiter.sweepCounter = 0 ∨ s.arbiter.sweepCounter < s.arbiter.sweepPeriod

/-! The bank, the effects registers and what entries record. -/

/-- R8. -/
def Matte.InRange (m : Matte) : Prop :=
  64 ≤ m.y ∧ m.y ≤ 940 ∧ 64 ≤ m.cb ∧ m.cb ≤ 960 ∧ 64 ≤ m.cr ∧ m.cr ≤ 960

/-- R35: clip and gain. -/
def KeySettings.InRange (k : KeySettings) : Prop := k.clip ≤ 1023 ∧ k.gain ≤ 16383

/-- R35: the mask rectangle lies inside the picture of a format. -/
def KeySettings.InPicture (k : KeySettings) (f : Format) : Prop :=
  k.left < f.width ∧ k.right < f.width ∧ k.top < f.height ∧ k.bottom < f.height

/-- R50. -/
def TransitionSetup.InRange (t : TransitionSetup) : Prop := t.softness ≤ 256 ∧ 1 ≤ t.rate ∧ t.rate ≤ 999

/-- R53: the set is not empty. -/
def ElementSet.Nonempty (m : ElementSet) : Prop := m.bkgd = true ∨ ∃ k, m.keys.get k = true

/-- R46: the list contains each of the four keyers exactly once. -/
def StackOrder (order : List Keyer) : Prop := order.Perm Keyer.all

/-- R72: the thresholds and the weight. -/
def FaderSettingsInRange (lower upper weight : Nat) : Prop :=
  lower ≤ 1023 ∧ 3072 ≤ upper ∧ upper ≤ 4095 ∧ 1 ≤ weight ∧ weight ≤ 16

/-- R72. -/
def Fader.InRange (f : Fader) : Prop :=
  f.reading ≤ 4095 ∧ f.filtered ≤ 4095 ∧ f.previous ≤ 1024 ∧ FaderSettingsInRange f.lower f.upper f.weight

/-- R56: what P and n are in each transition state between boundaries, and P as the counter gives it (R63). -/
def Bank.PositionLaw (b : Bank) : Prop :=
  match b.state with
  | .idle => b.position = 0 ∧ b.count = 0
  | .runManual => 1 ≤ b.position ∧ b.position ≤ 1023 ∧ b.count = 0
  | .runAuto => 1 ≤ b.count ∧ b.count < b.setup.rate ∧ b.position = b.count * 1024 / b.setup.rate

/-- The bank is as the tables of its chapters say. -/
structure Bank.Lawful (b : Bank) (f : Format) : Prop where
  matte : b.matte.InRange
  settings : ∀ k, (b.settings.get k).InRange
  masks : ∀ k, (b.settings.get k).InPicture f
  stack : StackOrder b.stack
  setup : b.setup.InRange
  nextSet : b.nextSet.Nonempty
  position : b.PositionLaw
  fader : b.fader.InRange

/-- A register holds values that a bank has held (R124). -/
def Effects.Lawful (e : Effects) : Prop :=
  (∀ p, e.trans = some p → p.nextSet.Nonempty ∧ p.setup.InRange ∧ StackOrder p.stack) ∧
  ∀ k p, e.keys.get k = some p → p.settings.InRange

/-- An entry records values its kind's rule lets through, the clamped ones included (R86). -/
def Action.Lawful : Action → Prop
  | .select _ _ => True
  | .matte colour => colour.InRange
  | .nextSet members => members.Nonempty
  | .transitionSetup setup => setup.InRange
  | .faderSetup lower upper weight => FaderSettingsInRange lower upper weight
  | .auto => True
  | .cut => True
  | .keyOrder order => StackOrder order
  | .keySelect _ _ _ => True
  | .keySetup _ _ clip gain _ => clip ≤ 1023 ∧ gain ≤ 16383
  | .keyMask _ _ _ _ _ _ => True
  | .keyCut _ _ => True
  | .recallEffects _ _ => True
  | .release _ => True
  | .setFormat _ => True
  | .setOutputRange _ => True

/-- The bank, the registers and the queue hold values in range. -/
structure State.BankLaw (s : State) : Prop where
  bank : s.bank.Lawful s.reference.format
  registers : ∀ r, (s.memory.registers.get r).Lawful
  entries : ∀ e ∈ s.queue, e.action.Lawful

/-! Links (R86, R150 to R154). -/

/-- The entries of one link that wait. -/
def State.waiting (s : State) (l : Link) : Nat := s.queue.countP fun e => e.link == l

/-- A receiver holds what its state says (R150). -/
def Receiver.Lawful : Receiver → Prop
  | .hunt => True
  | .length => True
  | .body n got => 2 ≤ n ∧ n ≤ 60 ∧ got.length < n
  | .check n got => 2 ≤ n ∧ n ≤ 60 ∧ got.length = n

/-- R154. -/
def Counters.InRange (c : Counters) : Prop :=
  c.rxGood ≤ 65535 ∧ c.rxBad ≤ 65535 ∧ c.rxLost ≤ 65535 ∧ c.doneSent ≤ 65535 ∧ c.refusedSent ≤ 65535

/-- The queue has at most 16 entries (R86), and each link keeps its slots: the reserved ones are those of its waiting entries,
at most twelve are in use (R152), and each report slot holds at most one report (R153). -/
structure State.LinksLaw (s : State) : Prop where
  queueRoom : s.queue.length ≤ 16
  reserved : ∀ l, (s.links.get l).reserved = s.waiting l
  slots : ∀ l, (s.links.get l).slotsUsed ≤ 12
  reports : ∀ l (r : ReportSlot), (s.links.get l).transmit.countP (fun m => m.slot == some r) ≤ 1
  receivers : ∀ l, (s.links.get l).receiver.Lawful
  counters : ∀ l, (s.links.get l).counters.InRange

/-! The refusal log (R158). -/

/-- Two records of the same link and reason. -/
def sameRefusal (a b : LogRecord) : Prop := a.link = b.link ∧ a.reason = b.reason

/-- Eight records, no two of the same link and reason, each with a repeat count in 1..255. -/
structure RefusalLog.Lawful (g : RefusalLog) : Prop where
  size : g.records.length = 8
  distinct : ∀ (i j : Nat) (a b : LogRecord),
    g.records[i]? = some (some a) → g.records[j]? = some (some b) → sameRefusal a b → i = j
  repeats : ∀ a, some a ∈ g.records → 1 ≤ a.repeats ∧ a.repeats ≤ 255

/-! The reference (R135 to R139). -/

/-- The counts and the expected time belong to the reference state. -/
def ReferenceUnit.Lawful (u : ReferenceUnit) : Prop :=
  match u.state with
  | .freeRun => u.goodCount = 0 ∧ u.missingCount = 0 ∧ u.expected = none
  | .acquiring => 1 ≤ u.goodCount ∧ u.goodCount ≤ 7 ∧ u.missingCount = 0 ∧ u.expected.isSome
  | .rephaseWait => u.goodCount = 0 ∧ u.missingCount ≤ 2 ∧ u.expected.isSome
  | .locked => u.goodCount = 0 ∧ u.missingCount ≤ 2 ∧ u.expected.isSome

/-! Restart (R34, R96, R123, R151, R153, R161 to R163). -/

/-- During a reset and the initialisation after it the links are at rest, nothing waits and nothing is held as ACQUIRED. -/
structure State.RestartLaw (s : State) : Prop where
  /-- a cold reset lasts as long as its line is asserted -/
  coldLine : s.setup.coldLine = true ↔ s.setup.phase = .coldReset
  /-- a warm reset from its line lasts while the line is asserted -/
  warmLine : ∀ c, s.setup.phase = .warmReset c → s.setup.warmLine = true
  /-- the outputs are black through a cold reset, and no longer than the initialisation after it -/
  black : s.setup.phase = .coldReset → s.compositor.blackout = true
  blackOnlyAfterCold : s.compositor.blackout = true → s.setup.phase.followsCold = true
  links : s.setup.phase ≠ .running → ∀ l, s.links.get l = freshPort
  queue : s.setup.phase ≠ .running → s.queue = []
  holdings : s.setup.phase ≠ .running → ∀ g l m, s.arbiter.holdings.get g ≠ .acquired l m
  lock : s.setup.phase.followsCold = true → s.setup.lock = false

/-! Shapes of a next state. -/

/-- The action field of a KEY CUT (R44). -/
def CutAction.code : CutAction → Byte
  | .off => 0
  | .on => 1
  | .toggle => 2

/-- The scope and the group code of a RELEASE (R110); the group code counts for the scope GROUP alone. -/
def ReleaseScope.bytes : ReleaseScope → List Byte
  | .group g => [0, Group.code g]
  | .keyers => [1, 0]
  | .all => [2, 0]

/-- The command a request of a kind is, with the requests of other links that reach the Action Queue together with it; these count
for the queued kinds alone. -/
def Kind.requestWith (k : Kind) (l : Link) (tag : Byte) (ps : List Byte) (together : List RequestFrame) : Instr :=
  match k with
  | .select => .select l tag ⟨ps, together⟩
  | .matte => .matte l tag ⟨ps, together⟩
  | .nextSet => .nextSet l tag ⟨ps, together⟩
  | .transitionSetup => .transitionSetup l tag ⟨ps, together⟩
  | .faderSetup => .faderSetup l tag ⟨ps, together⟩
  | .auto => .auto l tag ⟨ps, together⟩
  | .cut => .cut l tag ⟨ps, together⟩
  | .fader => .fader l tag ps
  | .keyOrder => .keyOrder l tag ⟨ps, together⟩
  | .keySelect => .keySelect l tag ⟨ps, together⟩
  | .keySetup => .keySetup l tag ⟨ps, together⟩
  | .keyMask => .keyMask l tag ⟨ps, together⟩
  | .keyCut => .keyCut l tag ⟨ps, together⟩
  | .store => .store l tag ps
  | .recallEffects => .recallEffects l tag ⟨ps, together⟩
  | .erase => .erase l tag ps
  | .claim => .claim l tag ⟨ps, []⟩
  | .release => .release l tag ⟨ps, together⟩
  | .queryBank => .queryBank l tag ps
  | .queryTally => .queryTally l tag ps
  | .queryStatus => .queryStatus l tag ps
  | .walkMemory => .walkMemory l tag ps
  | .walkHoldings => .walkHoldings l tag ps
  | .readCounters => .readCounters l tag ps
  | .readLog => .readLog l tag ps
  | .setFormat => .setFormat l tag ⟨ps, together⟩
  | .setOutputRange => .setOutputRange l tag ⟨ps, together⟩
  | .setRephase => .setRephase l tag ps
  | .setAging => .setAging l tag ps
  | .setLink => .setLink l tag ps
  | .assignStatic => .assignStatic l tag ps
  | .unassignStatic => .unassignStatic l tag ps
  | .lockSetup => .lockSetup l tag ps
  | .warmReset => .warmReset l tag ps
  | .clearLog => .clearLog l tag ps
  | .clearReferenceFlag => .clearReferenceFlag l tag ps

/-- The command a request of a kind is, coming alone. -/
def Kind.request (k : Kind) (l : Link) (tag : Byte) (ps : List Byte) : Instr := k.requestWith l tag ps []

/-- A request of the link reaches its checks: neither a reset nor an initialisation is in progress, the link is enabled, and one
of its twelve reply slots is free (R120, R151, R152). -/
def State.Serves (s : State) (l : Link) : Prop :=
  s.setup.phase = .running ∧ s.enabled l = true ∧ (s.links.get l).slotsUsed < 12

/-- The port of a link from which a good frame has been taken (R150, R154). -/
def LinkPort.received (p : LinkPort) : LinkPort :=
  { p with receiver := .hunt, counters := { p.counters with rxGood := bump p.counters.rxGood } }

/-- The state after a good frame of the link, otherwise the same. -/
def State.heard (s : State) (l : Link) : State :=
  { s with links := s.links.set l (s.links.get l).received }

/-- The state with a reply posted at the tail of the link's transmit queue, otherwise the same. -/
def State.said (s : State) (l : Link) (m : Message) : State :=
  { s with links := s.links.set l { s.links.get l with transmit := (s.links.get l).transmit ++ [m] } }

/-- The state with one more reply slot of the link reserved, otherwise the same. -/
def State.reserved (s : State) (l : Link) : State :=
  { s with links := s.links.set l { s.links.get l with reserved := (s.links.get l).reserved + 1 } }

/-- The holdings table with the mark of a group set where the link holds it as ACQUIRED (R105). -/
def marked (table : PerGroup Holding) (l : Link) (g : Group) : PerGroup Holding :=
  if table.get g = .acquired l false then table.set g (.acquired l true) else table

/-- The state after work of the link on a group: its activity mark is set where it holds the group as ACQUIRED (R105). -/
def State.worked (s : State) (l : Link) (g : Group) : State :=
  { s with arbiter := { s.arbiter with holdings := marked s.arbiter.holdings l g } }

/-- The state with a refusal answered and logged (R158), otherwise the same. -/
def State.refused (s : State) (l : Link) (tag kind : Byte) (reason : Reason) (g : Option Group) : State :=
  { s.said l (.refused tag kind reason) with
    log := s.log.note { link := l, kind := kind, reason := reason, group := g, frame := s.reference.frameCount, repeats := 1 } }

/-- A number carried in two bytes: every value of a numeric parameter (R145). -/
abbrev Word16 := BitVec 16

/-- Its two bytes, the high byte first. -/
def Word16.bytes (w : Word16) : List Byte := [(w >>> 8).setWidth 8, w.setWidth 8]

/-- The conditions under which a queued request enters the queue (R88): the link may act on its group, there is room, and a
setup request finds the setup lock clear. -/
def State.Admits (s : State) (l : Link) (a : Action) : Prop :=
  s.Serves l ∧ (∀ g, a.group = some g → s.MayUse l g) ∧ s.queue.length < 16 ∧ (a.lockable = true → s.setup.lock = false)

/-- The state after the admission of a request (R87, R89): its entry at the tail, a reply slot reserved for it, and the mark of its
group set where the sender holds the group as ACQUIRED. -/
def State.admitted (s : State) (l : Link) (tag : Byte) (a : Action) : State :=
  let t : State := ((s.heard l).reserved l).setQueue (s.queue ++ [{ link := l, tag := tag, action := a }])
  match a.group with
  | none => t
  | some g => t.worked l g

/-- The state with the reply of an entry posted into the slot reserved for it, otherwise the same (R92, R152). -/
def State.closed (s : State) (e : Entry) (m : Message) : State :=
  let p := s.links.get e.link
  { s with links := s.links.set e.link { p with reserved := p.reserved - 1, transmit := p.transmit ++ [m] } }

/-- An entry answered DONE with its result data. -/
def State.carriedOut (s : State) (e : Entry) (data : List Byte) : State :=
  s.closed e (.done e.tag e.action.kind.code data)

/-- An entry answered REFUSED, and its refusal logged (R158). -/
def State.turnedDown (s : State) (e : Entry) (reason : Reason) : State :=
  { s.closed e (.refused e.tag e.action.kind.code reason) with
    log := s.log.note { link := e.link, kind := e.action.kind.code, reason := reason, group := e.group,
                        frame := s.reference.frameCount, repeats := 1 } }

/-- The parameters of a request as a link carries them, for values in range. -/
def Action.params : Action → List Byte
  | .select bus source => [bus.code, Source.code source]
  | .matte colour => twoBytes colour.y ++ twoBytes colour.cb ++ twoBytes colour.cr
  | .nextSet members => members.bytes
  | .transitionSetup setup => setup.bytes
  | .faderSetup lower upper weight => twoBytes lower ++ twoBytes upper ++ twoBytes weight
  | .auto => []
  | .cut => []
  | .keyOrder order => order.map Keyer.code
  | .keySelect k bus source => [Keyer.code k, bus.code, Source.code source]
  | .keySetup k mode clip gain invert => Keyer.code k :: mode.code :: twoBytes clip ++ twoBytes gain ++ [bit invert]
  | .keyMask k mode left right top bottom =>
    Keyer.code k :: mode.code :: twoBytes left ++ twoBytes right ++ twoBytes top ++ twoBytes bottom
  | .keyCut k action => [Keyer.code k, action.code]
  | .recallEffects register scope => Register.code register :: scope.bytes
  | .release scope => scope.bytes ++ [1]
  | .setFormat f => [f.code]
  | .setOutputRange r => [r.code]

/-- A request whose parameters a link can carry as they stand: its values in range, its numbers in two bytes, its part set not
empty. -/
def Action.Sendable (a : Action) : Prop :=
  a.Lawful ∧
  match a with
  | .keyMask _ _ left right top bottom => left < 65536 ∧ right < 65536 ∧ top < 65536 ∧ bottom < 65536
  | .recallEffects _ scope => scope.isEmpty = false
  | _ => True

/-- The bytes received on a link one after another, each with a valid stop bit. -/
def receiveAll (l : Link) : List Byte → State → Result
  | [], s => .next s
  | b :: rest, s =>
    match exec (.byteReceived l b true) s with
    | .next t => receiveAll l rest t
    | .fault f => .fault f
    | .refused r => .refused r

end Sys2Proof.Machine
end

