-- ==== Sys2Proof/Certificates/Slice0/Obligations.lean ====
section
/-! DEFINITION. The statements for the provers. -/

open Sys2Proof Sys2Proof.Machine

/-! The machine as a whole. -/

/-- A step takes the command at the front of the queue and runs it on the state with the rest; on an empty queue the part idles.
The idling and the queue are the model's choice (logs 1 and 2). -/
def Obligations.StepTakesFront : Prop :=
  (∀ (c : Instr) (rest : List Instr) (s : State), step { s with pending := c :: rest } = exec c { s with pending := rest }) ∧
  (∀ s : State, s.pending = [] → step s = .next s)

/-- Every command, in every state, completes in a next state and leaves the waiting commands alone. -/
def Obligations.EveryCommandCompletes : Prop :=
  ∀ (c : Instr) (s : State), ∃ t, exec c s = .next t ∧ t.pending = s.pending

/-- What a cold reset leaves in the registers whose cold values the tables of the chapters give. -/
def Obligations.ColdValues : Prop :=
  let s := State.reset
  (s.bank.a = .black ∧ s.bank.b = .black ∧ (∀ k, s.bank.fill.get k = .black ∧ s.bank.source.get k = .black)
    ∧ s.bank.matte = { y := 502, cb := 512, cr := 512 }) ∧
  (∀ k, s.bank.settings.get k = ⟨.selfKey, 64, 256, false, .none, 0, 1919, 0, 1079⟩ ∧ s.bank.onAir.get k = false) ∧
  s.bank.stack = [.K1, .K2, .K3, .K4] ∧
  s.bank.setup = ⟨.mix, .h, 0, 25, false, false⟩ ∧
  (s.bank.nextSet.bkgd = true ∧ ∀ k, s.bank.nextSet.keys.get k = false) ∧
  (s.bank.state = .idle ∧ s.bank.position = 0 ∧ s.bank.count = 0) ∧
  (s.bank.fader = ⟨0, false, 0, .up, false, 0, 64, 4031, 8⟩ ∧ s.settled = s.bank.fader) ∧
  s.compositor.range = .wide ∧ s.queue = [] ∧
  (∀ i, s.ports.status.get i = .absent ∧ s.tally.program.get i = false ∧ s.tally.preview.get i = false) ∧
  (∀ r, (s.memory.registers.get r).isEmpty = true) ∧
  (∀ g, s.arbiter.holdings.get g = .free) ∧
  (∀ l, s.arbiter.attributes.get l = { enabled := true, rank := 0, barred := .const false, reports := true }) ∧
  (s.arbiter.sweepPeriod = 3000 ∧ s.arbiter.sweepCounter = 0) ∧
  (∀ l, s.memory.walk.get l = .start ∧ s.arbiter.walk.get l = .start) ∧
  (s.reference.state = .freeRun ∧ s.reference.goodCount = 0 ∧ s.reference.missingCount = 0 ∧ s.reference.expected = none
    ∧ s.reference.eventFlag = false ∧ s.reference.policy = .atIdle ∧ s.reference.format = .F0 ∧ s.reference.frameCount = 0) ∧
  (∀ l, s.links.get l = ⟨.hunt, 0, [], none, ⟨0, 0, 0, 0, 0⟩⟩) ∧
  s.setup.lock = false ∧ s.setup.record = .cold ∧
  s.log = { records := [none, none, none, none, none, none, none, none], overflow := false }

/-- The laws of the device and the ranges of its tables hold after a cold reset. -/
def Obligations.LawsAtReset : Prop :=
  State.reset.HoldingsLaw ∧ State.reset.BankLaw ∧ State.reset.LinksLaw ∧ State.reset.log.Lawful ∧
  State.reset.reference.Lawful ∧ State.reset.RestartLaw ∧ State.reset.tally = State.reset.bank.tally

/-- Every step keeps the laws that tie the queue and the fader to the holdings table. -/
def Obligations.HoldingsLawKept : Prop :=
  ∀ s t : State, s.HoldingsLaw → step s = .next t → t.HoldingsLaw

/-- Every step keeps the bank, the registers and the recorded entries in range: P and n by state, the set never empty, the stack
order a permutation, the masks inside the picture. -/
def Obligations.BankLawKept : Prop :=
  ∀ s t : State, s.BankLaw → step s = .next t → t.BankLaw

/-- Every step keeps the queue within 16 entries and every link within its slots and counter ranges. -/
def Obligations.LinksLawKept : Prop :=
  ∀ s t : State, s.LinksLaw → step s = .next t → t.LinksLaw

/-- Every step keeps the refusal log at eight records of which no two hold the same link and reason. -/
def Obligations.LogLawKept : Prop :=
  ∀ s t : State, s.log.Lawful → step s = .next t → t.log.Lawful

/-- Every step keeps the tally equal to the one derived from the bank state. -/
def Obligations.TallyLawKept : Prop :=
  ∀ s t : State, s.tally = s.bank.tally → step s = .next t → t.tally = t.bank.tally

/-- Every step keeps the counts and the expected time of the reference unit as its state says. -/
def Obligations.ReferenceLawKept : Prop :=
  ∀ s t : State, s.reference.Lawful → step s = .next t → t.reference.Lawful

/-- Every step keeps what holds during a reset and the initialisation after it. That every port is as after a cold reset then, its
transmission in progress ended too, is the model's choice (log 19, against R154 that cuts a message off after a byte). -/
def Obligations.RestartLawKept : Prop :=
  ∀ s t : State, s.RestartLaw → step s = .next t → t.RestartLaw

/-- The bank as the picture and the tally read it, the input statuses, the output range, the frame count and the format change
only at a boundary, taken by FRAME_BOUNDARY or REFERENCE_PULSE, or at a cold reset; between boundaries no more than the reading, F
valid and the live flag of the fader may. The copy of the fader that QUERY BANK answers from, which changes at boundaries alone too,
is the model's own (log 36, DEDUCED). -/
def Obligations.BankChangesAtBoundaries : Prop :=
  ∀ (c : Instr) (s t : State), exec c s = .next t →
    (∀ sig, c ≠ .frameBoundary sig) → (∀ i sig, c ≠ .referencePulse i sig) → c ≠ .coldResetAsserted →
    t.bank = { s.bank with fader := { s.bank.fader with
        reading := t.bank.fader.reading, valid := t.bank.fader.valid, live := t.bank.fader.live } } ∧
    (t.bank.fader.live = true → s.bank.fader.live = true) ∧
    t.ports.status = s.ports.status ∧ t.compositor = s.compositor ∧ t.tally = s.tally ∧ t.reported = s.reported ∧
    t.settled = s.settled ∧
    t.reference.frameCount = s.reference.frameCount ∧ t.reference.format = s.reference.format

/-- A STATIC holding ends only by UNASSIGN STATIC of its group, by ASSIGN STATIC of it to another link, or by a cold reset.
Either request may also come byte by byte, or as the frame of a command whose name does not fit its kind (log 30). -/
def Obligations.StaticHoldingsEnd : Prop :=
  ∀ (c : Instr) (s t : State) (g : Group) (h : Link), exec c s = .next t → s.arbiter.holdings.get g = .static h →
    t.arbiter.holdings.get g ≠ .static h →
    let ends (kind : Byte) (ps : List Byte) : Prop :=
      (kind = 0x36 ∧ ps = [Group.code g] ∧ t.arbiter.holdings.get g = .free) ∨
      (kind = 0x35 ∧ ∃ j, j ≠ h ∧ ps = [Group.code g, Link.code j] ∧ t.arbiter.holdings.get g = .static j)
    c = .coldResetAsserted ∨
    (∃ l tag ps, c = .unassignStatic l tag ps ∧ ends 0x36 ps) ∨
    (∃ l tag ps, c = .assignStatic l tag ps ∧ ends 0x35 ps) ∨
    (∃ l kind tag ps, (c = .undefinedKind l kind tag ps ∨ c = .disabledLinkFrame l kind tag ps) ∧ ends kind ps) ∨
    (∃ l b n kind tag ps, c = .byteReceived l b true ∧ (s.links.get l).receiver = .check n (kind :: tag :: ps) ∧ ends kind ps)

/-! The pictures. -/

/-- R17: end values, containment and symmetry of the mix. -/
def Obligations.MixLaws : Prop :=
  ∀ u v c : Int, 0 ≤ u → u ≤ 1023 → 0 ≤ v → v ≤ 1023 → 0 ≤ c → c ≤ 1024 →
    mix u v 0 = u ∧ mix u v 1024 = v ∧
    min u v ≤ mix u v c ∧ mix u v c ≤ max u v ∧
    mix u v c = mix v u (1024 - c)

/-- R18: the wipe ramp of each pattern at every pixel of every format, by the formulas of the table, within 0..1023;
the four pixels around the centre of BOX have ramp 0 on the 1080-line formats and, by the formula, 1 on the others (log 33). -/
def Obligations.WipeRamps : Prop :=
  ∀ (f : Format) (x y : Nat), x < f.width → y < f.height →
    wipeRamp f .h x y = x * 1024 / f.width ∧ wipeRamp f .v x y = y * 1024 / f.height ∧
    (∀ dx dy : Nat, (dx : Int) = |2 * (x : Int) - (f.width - 1)| → (dy : Int) = |2 * (y : Int) - (f.height - 1)| →
      wipeRamp f .box x y = max (dx * 1024 / f.width) (dy * 1024 / f.height) ∧
      dx % 2 = 1 ∧ dy % 2 = 1 ∧ (dx = 1 → dy = 1 → wipeRamp f .box x y = if f.height = 1080 then 0 else 1)) ∧
    wipeRamp f .diag x y = (x * f.height + y * f.width) * 512 / (f.width * f.height) ∧
    (∀ p, wipeRamp f p x y ≤ 1023) ∧
    (∀ p r, reversedRamp r (wipeRamp f p x y) ≤ 1023 ∧
      reversedRamp r (wipeRamp f p x y) = if r then 1023 - wipeRamp f p x y else wipeRamp f p x y)

/-- R20: the wipe coefficient, hard and soft, with both ends of the transition whole. -/
def Obligations.WipeCoefficients : Prop :=
  ∀ w p e : Nat, w ≤ 1023 → p ≤ 1024 → e ≤ 256 →
    (e = 0 → (w < p → wipeCoefficient w p e = 1024) ∧ (p ≤ w → wipeCoefficient w p e = 0)) ∧
    (0 < e → ∀ q : Nat, q = p * (1024 + e) / 1024 →
      wipeCoefficient w p e = max 0 (min 1024 (((q : Int) - w) * 1024 / e)) ∧
      (w + e ≤ q → wipeCoefficient w p e = 1024) ∧ (q ≤ w → wipeCoefficient w p e = 0)) ∧
    0 ≤ wipeCoefficient w p e ∧ wipeCoefficient w p e ≤ 1024 ∧
    (p = 0 → wipeCoefficient w p e = 0) ∧ (p = 1024 → wipeCoefficient w p e = 1024)

/-- The key signal of a luma at a pixel: base key by mode, then invert, then mask (R23 to R26), and the effective key (R28).
And the pictures composed with it: the bus that supplies the key (R22), the transition coefficient (R21), the layer levels (R27),
the background (R29), the layers in stack order (R30), the preview (R31) and the output clamp (R32), whatever the transition
state. -/
def Obligations.KeySignals : Prop :=
  (∀ (k : KeySettings) (ys : Int) (x y : Nat) (level : Int), 4 ≤ ys → ys ≤ 1019 → 0 ≤ level → level ≤ 1024 →
    let base : Int := if k.mode = .linear then max 0 (min 1024 ((ys - 64) * 1024 / 876))
      else max 0 (min 1024 ((ys - k.clip) * k.gain / 256))
    let inside := k.left ≤ x ∧ x ≤ k.right ∧ k.top ≤ y ∧ y ≤ k.bottom
    let key := k.key ys x y
    (k.maskMode = .inside → ¬ inside → key = 0) ∧ (k.maskMode = .outside → inside → key = 0) ∧
    ((k.maskMode = .none ∨ (k.maskMode = .inside ∧ inside) ∨ (k.maskMode = .outside ∧ ¬ inside)) →
      key = if k.invert then 1024 - base else base) ∧
    (k.mode ≠ .linear → ys ≤ k.clip ∨ k.gain = 0 → base = 0) ∧
    0 ≤ key ∧ key ≤ 1024 ∧
    effectiveKey key level = key * level / 1024 ∧
    0 ≤ effectiveKey key level ∧ effectiveKey key level ≤ key ∧ effectiveKey key level ≤ level ∧
    effectiveKey key 1024 = key ∧ effectiveKey key 0 = 0) ∧
  ∀ (s : State) (raw : RawSamples) (c : Component) (x y : Nat),
    let b := s.bank
    let running : Bool := decide (b.state ≠ .idle)
    -- the luma column that governs the sample: its own for luma, the even one of its pair for chroma (R13)
    let col := if c = .y then x else x - x % 2
    let ramp := wipeRamp s.reference.format b.setup.pattern col y
    let coefficient : Int := if b.setup.type = .mix then b.position
      else wipeCoefficient (if b.setup.reverse then 1023 - ramp else ramp) b.position b.setup.softness
    let supplies (k : Keyer) : Source := if (b.settings.get k).mode = .selfKey then b.fill.get k else b.source.get k
    let key (k : Keyer) : Int := (b.settings.get k).key (s.deliver raw (supplies k) .y col y) col y
    let level (k : Keyer) : Int :=
      if running && b.nextSet.keys.get k then (if b.onAir.get k then 1024 - coefficient else coefficient)
      else if b.onAir.get k then 1024 else 0
    let shown (k : Keyer) : Int := if b.onAir.get k = b.nextSet.keys.get k then 0 else 1024
    let lay (at' : Keyer → Int) (out : Int) (k : Keyer) : Int :=
      out + ((s.deliver raw (b.fill.get k) c x y - out) * (key k * at' k / 1024) + 512) / 1024
    let a := s.deliver raw b.a c x y
    let background : Int := if running && b.nextSet.bkgd then a + ((s.deliver raw b.b c x y - a) * coefficient + 512) / 1024 else a
    let low : Int := if s.compositor.range = .legal then 64 else 4
    let high : Int := if s.compositor.range = .legal then (if c = .y then 940 else 960) else 1019
    let program := b.stack.foldl (lay level) background
    let preview := b.stack.foldl (lay shown) (if b.nextSet.bkgd then s.deliver raw b.b c x y else a)
    s.composedProgram raw c x y = program ∧ s.composedPreview raw c x y = preview ∧
    (s.compositor.blackout = false → s.programSample raw c x y = max low (min high program) ∧
      s.previewSample raw c x y = max low (min high preview))

/-- Every sample a picture is composed of lies in 4..1019, whatever arrives at the inputs, and so does every composed sample
(R1, R22, R30), and every output sample lies in the clamp range of the output range mode (R32). -/
def Obligations.PicturesInRange : Prop :=
  ∀ (s : State) (f : Format) (raw : RawSamples) (c : Component) (x y : Nat), s.bank.Lawful f → s.reference.format = f →
    x < f.width → y < f.height →
    let low : Int := if s.compositor.range = .legal then 64 else 4
    let high : Int := if s.compositor.range = .legal then (if c = .y then 940 else 960) else 1019
    (∀ src, 4 ≤ s.deliver raw src c x y ∧ s.deliver raw src c x y ≤ 1019) ∧
    (4 ≤ s.composedProgram raw c x y ∧ s.composedProgram raw c x y ≤ 1019) ∧
    (4 ≤ s.composedPreview raw c x y ∧ s.composedPreview raw c x y ≤ 1019) ∧
    (low ≤ s.programSample raw c x y ∧ s.programSample raw c x y ≤ high) ∧
    (low ≤ s.previewSample raw c x y ∧ s.previewSample raw c x y ≤ high) ∧
    (s.compositor.blackout = true → s.programSample raw c x y = (if c = .y then 64 else 512) ∧
      s.previewSample raw c x y = (if c = .y then 64 else 512))

/-- A completion shows on program exactly what preview showed before it, whatever the transition state was, and preview depends on
none of the transition state, P, n, the transition setup and the fader (R31, R65). -/
def Obligations.CompletionShowsPreview : Prop :=
  ∀ (s : State) (raw : RawSamples) (c : Component) (x y : Nat),
    ({ s with bank := s.bank.completeNotLive } : State).programSample raw c x y = s.previewSample raw c x y ∧
    ∀ (state : TransitionState) (p n : Nat) (setup : TransitionSetup) (fader : Fader),
      ({ s with bank := { s.bank with state := state, position := p, count := n, setup := setup, fader := fader } }
        : State).previewSample raw c x y = s.previewSample raw c x y

/-- What the buses deliver (R7): black, the matte colour, an aligned input clamped to 4..1019 (R1) where it is received, and black
where it is not or where the input is not aligned. SIGNAL_LOSS turns the positions it names black on an aligned input and changes
nothing else; on an input that is not aligned it changes nothing. Positions as runs are the model's choice (log 21). -/
def Obligations.SignalLosses : Prop :=
  (∀ (s : State) (raw : RawSamples) (c : Component) (x y : Nat),
    let black : Int := if c = .y then 64 else 512
    let col := if c = .y then x else x - x % 2
    let position := y * s.reference.format.width + col
    s.deliver raw .black c x y = black ∧
    s.deliver raw .matte c x y = (match c with | .y => s.bank.matte.y | .cb => s.bank.matte.cb | .cr => s.bank.matte.cr) ∧
    ∀ i : Input,
      (s.ports.status.get i ≠ .aligned → s.deliver raw (.input i) c x y = black) ∧
      (s.ports.status.get i = .aligned →
        ((∃ run ∈ s.ports.lost.get i, run.1 ≤ position ∧ position ≤ run.2) → s.deliver raw (.input i) c x y = black) ∧
        ((∀ run ∈ s.ports.lost.get i, position < run.1 ∨ run.2 < position) →
          s.deliver raw (.input i) c x y = max 4 (min 1019 (raw i c col y : Int))))) ∧
  ∀ (s : State) (i : Input) (first last : Nat),
    (s.ports.status.get i ≠ .aligned → exec (.signalLoss i first last) s = .next s) ∧
    (s.ports.status.get i = .aligned → ∃ runs,
      exec (.signalLoss i first last) s = .next { s with ports := { s.ports with lost := runs } } ∧
      (∀ j, j ≠ i → runs.get j = s.ports.lost.get j) ∧
      ∀ (raw : RawSamples) (c : Component) (x y : Nat),
        ({ s with ports := { s.ports with lost := runs } } : State).deliver raw (.input i) c x y =
          if first ≤ y * s.reference.format.width + coSite c x ∧ y * s.reference.format.width + coSite c x ≤ last then
            (if c = .y then 64 else 512)
          else s.deliver raw (.input i) c x y)

/-! Transitions and the fader. -/

/-- The acts of a completion by AUTO or CUT (R65, R66), and what they leave alone. -/
def Obligations.CompletionActs : Prop :=
  ∀ b : Bank,
    b.completeNotLive = { b with
      a := b.completeNotLive.a, b := b.completeNotLive.b, onAir := b.completeNotLive.onAir,
      setup := { b.setup with reverse := b.completeNotLive.setup.reverse },
      state := .idle, position := 0, count := 0, fader := { b.fader with live := false } } ∧
    (b.nextSet.bkgd = true → b.completeNotLive.a = b.b ∧ b.completeNotLive.b = b.a) ∧
    (b.nextSet.bkgd = false → b.completeNotLive.a = b.a ∧ b.completeNotLive.b = b.b) ∧
    (∀ k, b.completeNotLive.onAir.get k = if b.nextSet.keys.get k then !b.onAir.get k else b.onAir.get k) ∧
    (b.completeNotLive.setup.reverse =
      if b.setup.type = .wipe ∧ b.setup.flipFlop = true then !b.setup.reverse else b.setup.reverse) ∧
    b.completeNotLive.completeNotLive = { b with state := .idle, position := 0, count := 0, fader := { b.fader with live := false } }

/-- An automatic transition runs its course (R63): from RUN_AUTO at count n, k steps on P is floor((n + k) × 1024 / D) while
n + k is below D, and at the step that brings n to D the transition is complete. The fader follows its lever all the while, as
the RUN_AUTO column of R77 gives: at each step the filter runs where F is valid, previous P_bar takes the new P_bar, and nothing
else of the fader moves. -/
def Obligations.AutoRunsItsCourse : Prop :=
  ∀ (b : Bank) (k : Nat), b.state = .runAuto → b.count < b.setup.rate →
    let follow (f : Fader) : Fader :=
      let moved : Fader := if f.valid then { f with filtered := filterNext f.reading f.filtered f.weight } else f
      { moved with previous := moved.bar }
    (b.count + k < b.setup.rate →
      Bank.step^[k] b = { b with
        count := b.count + k
        position := if k = 0 then b.position else (b.count + k) * 1024 / b.setup.rate
        fader := follow^[k] b.fader }) ∧
    (b.count + k = b.setup.rate →
      Bank.step^[k] b = { b.completeNotLive with fader := { follow^[k] b.fader with live := false } })

/-- R78: the filter moves S toward F by trunc((F − S) × W / 16), at least one unit, never past F, within 0..4095;
with W 16 it reaches F at once, and it comes to rest at F alone. -/
def Obligations.FilterLaw : Prop :=
  ∀ f s w : Nat, f ≤ 4095 → s ≤ 4095 → 1 ≤ w → w ≤ 16 →
    (s ≤ f → filterNext f s w = s + (if (f - s) * w / 16 = 0 ∧ s < f then 1 else (f - s) * w / 16)) ∧
    (f ≤ s → filterNext f s w = s - (if (s - f) * w / 16 = 0 ∧ f < s then 1 else (s - f) * w / 16)) ∧
    (s < f → s < filterNext f s w ∧ filterNext f s w ≤ f) ∧
    (f < s → f ≤ filterNext f s w ∧ filterNext f s w < s) ∧
    filterNext f s w ≤ 4095 ∧ (w = 16 → filterNext f s w = f) ∧ (filterNext f s w = s ↔ s = f)

/-- R79: the direction-adjusted value and the bar position, which lies in 0..1024 and rises with S' by at most one unit. -/
def Obligations.BarPositions : Prop :=
  ∀ f : Fader, f.InRange → ∀ s, s = (if f.direction = .up then f.filtered else 4095 - f.filtered) →
    (s ≤ f.lower → f.bar = 0) ∧ (f.upper ≤ s → f.bar = 1024) ∧
    (f.lower < s → s < f.upper → f.bar = (s - f.lower) * 1024 / (f.upper - f.lower) ∧ f.bar ≤ 1023) ∧
    f.bar ≤ 1024 ∧
    (∀ v, barOf v f.lower f.upper ≤ barOf (v + 1) f.lower f.upper ∧
      barOf (v + 1) f.lower f.upper ≤ barOf v f.lower f.upper + 1)

/-- The fader step of a bank in IDLE or RUN_MANUAL (R77, R80 to R83): with no valid reading nothing moves but previous P_bar;
a fader neither live nor picked up moves S and previous P_bar alone; a live one, or one picked up, starts, follows, abandons or
completes the manual transition. -/
def Obligations.FaderDrives : Prop :=
  ∀ b : Bank, b.state ≠ .runAuto → b.fader.InRange →
    let f : Fader := { b.fader with filtered := filterNext b.fader.reading b.fader.filtered b.fader.weight }
    let crossing := (f.previous < b.position ∧ b.position < f.bar) ∨ (f.bar < b.position ∧ b.position < f.previous)
    (b.fader.valid = false → b.step = { b with fader := { b.fader with previous := b.fader.bar } }) ∧
    (b.fader.valid = true → b.fader.live = false → f.bar ≠ b.position → ¬ crossing →
      b.step = { b with fader := { f with previous := f.bar } }) ∧
    (b.fader.valid = true → (b.fader.live = true ∨ f.bar = b.position ∨ crossing) →
      (f.bar = 0 → b.state = .idle → b.step = { b with fader := { f with live := true, previous := 0 } }) ∧
      (f.bar = 0 → b.state = .runManual →
        b.step = { b with state := .idle, position := 0, count := 0, fader := { f with live := true, previous := 0 } }) ∧
      (f.bar ≠ 0 → f.bar ≠ 1024 →
        b.step = { b with state := .runManual, position := f.bar, fader := { f with live := true, previous := f.bar } }) ∧
      (f.bar = 1024 →
        let turned : Fader := { f with direction := if f.direction = .up then .down else .up }
        b.step = { b.completeNotLive with
          fader := { turned with live := decide (turned.bar = 0), previous := turned.bar } }))

/-! Frame boundaries. -/

/-- R2: the status of an input, the first value of the table whose condition holds. The offset is a time (log 6), compared with 8
lines of the format by multiplying both with the format's line count. -/
def Obligations.InputStatuses : Prop :=
  ∀ (f : Format) (g : InputSignal), g.rateDen ≠ 0 →
    let differs := g.width ≠ f.width ∨ g.height ≠ f.height ∨ (g.rateNum : ℚ) / g.rateDen ≠ (f.rateNum : ℚ) / f.rateDen
    let over8 := 8 * (f.period : Int) < |g.offset| * f.totalLines
    (g.locked = false ∨ g.startSeen = false → evaluateInput f g = .absent) ∧
    (g.locked = true → g.startSeen = true → differs → evaluateInput f g = .wrongFormat) ∧
    (g.locked = true → g.startSeen = true → ¬ differs → over8 → evaluateInput f g = .misaligned) ∧
    (g.locked = true → g.startSeen = true → ¬ differs → ¬ over8 → evaluateInput f g = .aligned)

/-- FRAME_BOUNDARY (R91, R134, with R2, R34, R99, R100, R102, R115): none during a cold reset; otherwise the timer's boundary, at
the instant it is due. And a boundary at any instant, so that of a pulse too (R138, R139): the count rises by one, the timer starts its
next period, the statuses are those of the format that stands afterwards, every entry is applied, and of the applied queue remain the
holdings, the log and the output range; the bank takes its step, the tally is derived from it, the copy of the reported contents and
that of the fader are taken (log 36), black ends and initialisation ends. Where the counter reaches T it returns to 0 and a sweep is owed; a boundary
whose count and sweep have been taken ahead is not counted again (log 8). A boundary while running posts, after BANK STATE and TALLY, a STATUS report to every enabled link with
reports on where an input status differs from the one before the boundary, and to none where none does (R4, log 39). That a command
during a cold reset has no effect is log 25 (read from R135); the owed sweep at the start is log 8, the order inside the boundary log
9, the instant after next in LOCKED log 11. -/
def Obligations.BoundaryTaken : Prop :=
  ∀ (s : State) (sig : PerInput InputSignal),
    (s.setup.phase = .coldReset → exec (.frameBoundary sig) s = .next s) ∧
    (s.setup.phase ≠ .coldReset → exec (.frameBoundary sig) s = .next (s.boundary sig s.reference.nextBoundary)) ∧
    ∀ instant : Nat,
      let opened := s.takeOwedSweep.openBoundary sig instant
      let applied := opened.applyQueue sig
      let t := s.boundary sig instant
      t.bank = applied.bank.step ∧ t.queue = [] ∧
      t.arbiter.holdings = applied.arbiter.holdings ∧ t.log = applied.log ∧ t.compositor.range = applied.compositor.range ∧
      t.reference.frameCount = s.reference.frameCount + 1 ∧ t.reference.lastBoundary = instant ∧
      t.ports.status = sig.map (evaluateInput t.reference.format) ∧ (∀ i, t.ports.lost.get i = []) ∧
      t.tally = t.bank.tally ∧ t.reported = t.bank.contents ∧ t.settled = t.bank.fader ∧ t.compositor.blackout = false ∧
      t.memory = s.memory ∧ t.arbiter.attributes = s.arbiter.attributes ∧ t.arbiter.walk = s.arbiter.walk ∧
      t.arbiter.refresh = .const false ∧ t.arbiter.sweepPeriod = s.arbiter.sweepPeriod ∧
      t.arbiter.sweepCounter = (if s.arbiter.sweepMark = .ahead then s.arbiter.sweepCounter
        else if s.arbiter.sweepPeriod ≤ s.arbiter.sweepCounter + 1 then 0 else s.arbiter.sweepCounter + 1) ∧
      t.arbiter.sweepMark = (if s.arbiter.sweepPeriod ≠ 0 ∧ s.arbiter.sweepPeriod ≤ s.arbiter.sweepCounter + 1 ∧
        s.arbiter.sweepMark ≠ .ahead then .owed else .none) ∧
      ((∀ e ∈ s.queue, ∀ f, e.action ≠ .setFormat f) →
        t.reference = { s.reference with
          frameCount := s.reference.frameCount + 1, lastBoundary := instant,
          nextBoundary := if s.reference.state = .locked ∧ ∃ due, s.reference.expected = some due ∧ instant < due
            then s.reference.expected.getD 0 else instant + s.reference.format.period }) ∧
      t.setup = { s.setup with phase := match s.setup.phase with | .initialising _ => .running | p => p } ∧
      t.pending = s.pending ∧
      (s.setup.phase = .running →
        let told := (opened.processBank sig).reportBank s.tally
        let status : Message := .status { state := t.reference.state, eventFlag := t.reference.eventFlag, inputs := t.ports.status,
                                          lock := s.setup.lock, record := s.setup.record }
        ∀ l, t.links.get l = if s.takesReports l = true ∧ t.ports.status ≠ s.ports.status then (told.links.get l).report status
          else told.links.get l)

/-- R91, R92: the entries are applied from the head one at a time, each on the state the entries ahead of it left, until the queue
is empty. An entry may take others out of the queue only where it is a RELEASE. -/
def Obligations.QueueAppliedInOrder : Prop :=
  ∀ (s : State) (sig : PerInput InputSignal),
    (s.applyQueue sig).queue = [] ∧
    ((∀ e ∈ s.queue, ∀ scope, e.action ≠ .release scope) →
      s.applyQueue sig = s.queue.foldl (fun u e => u.applyEntry sig e) { s with queue := [] }) ∧
    (∀ e rest, s.queue = e :: rest →
      s.applyQueue sig = (({ s with queue := rest } : State).applyEntry sig e).applyQueue sig)

/-- R10, R11: the application of SELECT and MATTE. -/
def Obligations.BackgroundApplied : Prop :=
  ∀ (s : State) (sig : PerInput InputSignal) (l : Link) (tag : Byte),
    (∀ bus src, let e : Entry := { link := l, tag := tag, action := .select bus src }
      (s.bank.state ≠ .idle → s.bank.nextSet.bkgd = true → s.applyEntry sig e = s.turnedDown e .transitionActive) ∧
      (s.bank.state = .idle ∨ s.bank.nextSet.bkgd = false →
        s.applyEntry sig e = State.carriedOut
          { s with bank := { s.bank with a := if bus = .a then src else s.bank.a, b := if bus = .b then src else s.bank.b } }
          e [if bus = .a then 0 else 1, Source.code src])) ∧
    (∀ m, let e : Entry := { link := l, tag := tag, action := .matte m }
      s.applyEntry sig e = State.carriedOut { s with bank := { s.bank with matte := m } } e
        (twoBytes m.y ++ twoBytes m.cb ++ twoBytes m.cr))

/-- R47, R52, R55, R76: NEXT SET, TRANSITION SETUP, KEY ORDER and FADER SETUP are refused while a transition runs and carried out
in IDLE. -/
def Obligations.TransitionSettingsApplied : Prop :=
  ∀ (s : State) (sig : PerInput InputSignal) (l : Link) (tag : Byte),
    (s.bank.state ≠ .idle →
      (∀ m, let e : Entry := { link := l, tag := tag, action := .nextSet m }
        s.applyEntry sig e = s.turnedDown e .transitionActive) ∧
      (∀ u, let e : Entry := { link := l, tag := tag, action := .transitionSetup u }
        s.applyEntry sig e = s.turnedDown e .transitionActive) ∧
      (∀ o, let e : Entry := { link := l, tag := tag, action := .keyOrder o }
        s.applyEntry sig e = s.turnedDown e .transitionActive) ∧
      (∀ lo up w, let e : Entry := { link := l, tag := tag, action := .faderSetup lo up w }
        s.applyEntry sig e = s.turnedDown e .transitionActive)) ∧
    (s.bank.state = .idle →
      (∀ m, let e : Entry := { link := l, tag := tag, action := .nextSet m }
        s.applyEntry sig e = State.carriedOut { s with bank := { s.bank with nextSet := m } } e
          ([m.bkgd, m.keys.k1, m.keys.k2, m.keys.k3, m.keys.k4].map bit)) ∧
      (∀ u, let e : Entry := { link := l, tag := tag, action := .transitionSetup u }
        s.applyEntry sig e = State.carriedOut { s with bank := { s.bank with setup := u } } e
          ([u.type.code, u.pattern.code] ++ twoBytes u.softness ++ twoBytes u.rate ++ [bit u.reverse, bit u.flipFlop])) ∧
      (∀ o, let e : Entry := { link := l, tag := tag, action := .keyOrder o }
        s.applyEntry sig e = State.carriedOut { s with bank := { s.bank with stack := o } } e (o.map Keyer.code)) ∧
      (∀ lo up w, let e : Entry := { link := l, tag := tag, action := .faderSetup lo up w }
        s.applyEntry sig e = State.carriedOut
          { s with bank := { s.bank with fader := { s.bank.fader with lower := lo, upper := up, weight := w } } } e
          (twoBytes lo ++ twoBytes up ++ twoBytes w)))

/-- R59 to R62: AUTO starts from IDLE at count 0, takes over RUN_MANUAL at ceil(P × D / 1024) and is refused in RUN_AUTO;
CUT completes whatever the state. -/
def Obligations.AutoAndCutApplied : Prop :=
  ∀ (s : State) (sig : PerInput InputSignal) (l : Link) (tag : Byte),
    let e : Entry := { link := l, tag := tag, action := .auto }
    let c : Entry := { link := l, tag := tag, action := .cut }
    let started (n : Nat) : State := State.carriedOut
      { s with bank := { s.bank with state := .runAuto, count := n, fader := { s.bank.fader with live := false } } } e
      (1 :: twoBytes n ++ twoBytes s.bank.setup.rate)
    (s.bank.state = .idle → s.applyEntry sig e = started 0) ∧
    (s.bank.state = .runManual → ∀ n : Nat, s.bank.position * s.bank.setup.rate ≤ n * 1024 →
      n * 1024 < s.bank.position * s.bank.setup.rate + 1024 → s.applyEntry sig e = started n) ∧
    (s.bank.state = .runAuto → s.applyEntry sig e = s.turnedDown e .transitionActive) ∧
    s.applyEntry sig c = State.carriedOut { s with bank := s.bank.completeNotLive } c
      (([s.bank.nextSet.bkgd, s.bank.nextSet.keys.k1, s.bank.nextSet.keys.k2, s.bank.nextSet.keys.k3, s.bank.nextSet.keys.k4]
        ++ Keyer.all.map s.bank.completeNotLive.onAir.get).map bit)

/-- R38, R40, R42, R45: KEY SELECT, KEY SETUP and KEY MASK are carried out whatever the transition state; KEY CUT is refused while a
transition runs with its keyer in the set. -/
def Obligations.KeyersApplied : Prop :=
  ∀ (s : State) (sig : PerInput InputSignal) (l : Link) (tag : Byte) (k : Keyer),
    let kept := s.bank.settings.get k
    (∀ src, let e : Entry := { link := l, tag := tag, action := .keySelect k .fill src }
      s.applyEntry sig e = State.carriedOut { s with bank := { s.bank with fill := s.bank.fill.set k src } } e
        [Keyer.code k, 0, Source.code src]) ∧
    (∀ src, let e : Entry := { link := l, tag := tag, action := .keySelect k .source src }
      s.applyEntry sig e = State.carriedOut { s with bank := { s.bank with source := s.bank.source.set k src } } e
        [Keyer.code k, 1, Source.code src]) ∧
    (∀ mode clip gain inv, let e : Entry := { link := l, tag := tag, action := .keySetup k mode clip gain inv }
      let new : KeySettings := { kept with mode := mode, clip := clip, gain := gain, invert := inv }
      s.applyEntry sig e = State.carriedOut { s with bank := { s.bank with settings := s.bank.settings.set k new } } e
        (Keyer.code k :: mode.code :: twoBytes clip ++ twoBytes gain ++ [bit inv])) ∧
    (∀ mode left right top bottom, let e : Entry := { link := l, tag := tag, action := .keyMask k mode left right top bottom }
      let w := s.reference.format.width - 1
      let h := s.reference.format.height - 1
      let new : KeySettings :=
        { kept with maskMode := mode, left := min left w, right := min right w, top := min top h, bottom := min bottom h }
      s.applyEntry sig e = State.carriedOut { s with bank := { s.bank with settings := s.bank.settings.set k new } } e
        (Keyer.code k :: mode.code :: twoBytes (min left w) ++ twoBytes (min right w) ++ twoBytes (min top h)
          ++ twoBytes (min bottom h))) ∧
    (∀ action, let e : Entry := { link := l, tag := tag, action := .keyCut k action }
      let air := match action with | .off => false | .on => true | .toggle => !s.bank.onAir.get k
      (s.bank.state ≠ .idle → s.bank.nextSet.keys.get k = true → s.applyEntry sig e = s.turnedDown e .transitionActive) ∧
      (s.bank.state = .idle ∨ s.bank.nextSet.keys.get k = false →
        s.applyEntry sig e = State.carriedOut { s with bank := { s.bank with onAir := s.bank.onAir.set k air } } e
          [Keyer.code k, bit air]))

/-- R129, R130: RECALL tests the register, the transition and the scope in that order; the parts requested, present and permitted are
set as a cut, each mask coordinate clamped to the picture, and nothing else of the bank changes. -/
def Obligations.RecallApplied : Prop :=
  ∀ (s : State) (sig : PerInput InputSignal) (l : Link) (tag : Byte) (r : Register) (asked : PartSet),
    let e : Entry := { link := l, tag := tag, action := .recallEffects r asked }
    let held := s.memory.registers.get r
    let may (g : Group) : Bool := decide (s.barredFrom l g = false ∧ (s.holder g = none ∨ s.holder g = some l))
    let bkgd := asked.bkgd && held.bkgd.isSome && may .bkgd
    let trans := asked.trans && held.trans.isSome && may .trans
    let key (k : Keyer) : Bool := asked.keys.get k && (held.keys.get k).isSome && may (Keyer.group k)
    let w := s.reference.format.width - 1
    let h := s.reference.format.height - 1
    (held = { bkgd := none, trans := none, keys := .const none } → s.applyEntry sig e = s.turnedDown e .empty) ∧
    (held ≠ { bkgd := none, trans := none, keys := .const none } → s.bank.state ≠ .idle →
      s.applyEntry sig e = s.turnedDown e .transitionActive) ∧
    (s.bank.state = .idle → bkgd = false → trans = false → (∀ k, key k = false) → s.applyEntry sig e = s.turnedDown e .empty) ∧
    (s.bank.state = .idle → (bkgd = true ∨ trans = true ∨ ∃ k, key k = true) → ∃ b : Bank,
      s.applyEntry sig e = State.carriedOut { s with bank := b } e
        (Register.code r :: bit bkgd :: bit trans :: Keyer.all.map fun k => bit (key k)) ∧
      b = { s.bank with a := b.a, b := b.b, nextSet := b.nextSet, setup := b.setup, stack := b.stack, settings := b.settings,
                        fill := b.fill, source := b.source, onAir := b.onAir } ∧
      (∀ p, held.bkgd = some p → bkgd = true → b.a = p.a ∧ b.b = p.b) ∧
      (bkgd = false → b.a = s.bank.a ∧ b.b = s.bank.b) ∧
      (∀ p, held.trans = some p → trans = true → b.nextSet = p.nextSet ∧ b.setup = p.setup ∧ b.stack = p.stack) ∧
      (trans = false → b.nextSet = s.bank.nextSet ∧ b.setup = s.bank.setup ∧ b.stack = s.bank.stack) ∧
      (∀ k p, held.keys.get k = some p → key k = true →
        b.settings.get k = { p.settings with left := min p.settings.left w, right := min p.settings.right w,
                                             top := min p.settings.top h, bottom := min p.settings.bottom h } ∧
        b.fill.get k = p.fill ∧ b.source.get k = p.source ∧ b.onAir.get k = p.onAir) ∧
      (∀ k, key k = false → b.settings.get k = s.bank.settings.get k ∧ b.fill.get k = s.bank.fill.get k ∧
        b.source.get k = s.bank.source.get k ∧ b.onAir.get k = s.bank.onAir.get k))

/-- R33, R43, R142: SET OUTPUT RANGE is carried out whatever the state; SET FORMAT is refused while a transition runs, changes nothing
where the format is in force already, and otherwise clamps every mask, evaluates the inputs afresh and puts the reference unit into
FREE_RUN with its timer restarted, a STATUS report telling of the change of state. The inputs are evaluated with the boundary's
own observations (log 7), and the STATUS report stands ahead of the DONE (log 17). -/
def Obligations.SetupApplied : Prop :=
  ∀ (s : State) (sig : PerInput InputSignal) (l : Link) (tag : Byte),
    (∀ r, let e : Entry := { link := l, tag := tag, action := .setOutputRange r }
      s.applyEntry sig e = State.carriedOut { s with compositor := { s.compositor with range := r } } e
        [if r = .wide then 0 else 1]) ∧
    (∀ f, let e : Entry := { link := l, tag := tag, action := .setFormat f }
      (s.bank.state ≠ .idle → s.applyEntry sig e = s.turnedDown e .transitionActive) ∧
      (s.bank.state = .idle → s.reference.format = f → s.applyEntry sig e = s.carriedOut e [f.code]) ∧
      (s.bank.state = .idle → s.reference.format ≠ f →
        let clamped : PerKeyer KeySettings := .ofFn fun k =>
          let m := s.bank.settings.get k
          { m with left := min m.left (f.width - 1), right := min m.right (f.width - 1),
                   top := min m.top (f.height - 1), bottom := min m.bottom (f.height - 1) }
        let changed : State := { s with
          bank := { s.bank with settings := clamped }
          ports := { s.ports with status := .ofFn fun i => evaluateInput f (sig.get i) }
          reference := { s.reference with state := .freeRun, goodCount := 0, missingCount := 0, expected := none, format := f,
                                          nextBoundary := s.reference.lastBoundary + f.period } }
        s.applyEntry sig e =
          (if s.reference.state = .freeRun then changed else changed.postReport changed.statusMessage).carriedOut e [f.code]))

/-- R97, R98: the tally lines after a boundary are those derived from the bank state that stands after it. -/
def Obligations.TallyDerivation : Prop :=
  ∀ (s t : State) (sig : PerInput InputSignal), s.setup.phase ≠ .coldReset → exec (.frameBoundary sig) s = .next t → ∀ i : Input,
    let b := t.bank
    let selects (k : Keyer) : Prop :=
      b.fill.get k = .input i ∨ (b.source.get k = .input i ∧ (b.settings.get k).mode ≠ .selfKey)
    (t.programLine i = true ↔
      b.a = .input i ∨ (b.state ≠ .idle ∧ b.nextSet.bkgd = true ∧ b.b = .input i) ∨
      ∃ k, (b.onAir.get k = true ∨ (b.nextSet.keys.get k = true ∧ b.state ≠ .idle)) ∧ selects k) ∧
    (t.previewLine i = true ↔
      (b.nextSet.bkgd = true ∧ b.b = .input i) ∨ (b.nextSet.bkgd = false ∧ b.a = .input i) ∨
      ∃ k, b.onAir.get k ≠ b.nextSet.keys.get k ∧ selects k)

/-- R100 to R102, R153: the reports of a boundary, BANK STATE where the contents differ from the copy, TALLY where the tally differs
from the one before, both where the link is owed them; none to a link that is disabled or has reports off. A report joins the tail
of a transmit queue, or takes the place of the report waiting in its slot. BANK STATE ahead of TALLY is the model's order (log 9), the
flag by which a link is owed both is the model's own (log 27), and so is the copy of the fader that queries see (log 36). That a
completion after which no content differs posts no BANK STATE, where R67 has one always posted, is log 35 (DEDUCED from R71, R100). -/
def Obligations.BoundaryReports : Prop :=
  (∀ (p : LinkPort) (m : Message) (r : ReportSlot), m.slot = some r →
    ((∀ x ∈ p.transmit, x.slot ≠ some r) → p.report m = { p with transmit := p.transmit ++ [m] }) ∧
    (∀ ahead old behind, p.transmit = ahead ++ old :: behind → old.slot = some r →
      (∀ x ∈ ahead ++ behind, x.slot ≠ some r) → p.report m = { p with transmit := ahead ++ m :: behind })) ∧
  ∀ (s : State) (before : Tally), s.setup.phase = .running →
    let t := s.reportBank before
    t = { s with links := t.links, reported := s.bank.contents, settled := s.bank.fader,
                 arbiter := { s.arbiter with refresh := .const false } } ∧
    ∀ l, let owed := s.arbiter.refresh.get l = true
      let bankDue := s.bank.contents ≠ s.reported ∨ owed
      let tallyDue := s.tally ≠ before ∨ owed
      let bank : Message := .bankState s.reference.frameCount s.bank.contents
      let tally : Message := .tally s.reference.frameCount s.tally
      (s.takesReports l = false → t.links.get l = s.links.get l) ∧
      (¬ bankDue → ¬ tallyDue → t.links.get l = s.links.get l) ∧
      (s.takesReports l = true → bankDue → ¬ tallyDue → t.links.get l = (s.links.get l).report bank) ∧
      (s.takesReports l = true → ¬ bankDue → tallyDue → t.links.get l = (s.links.get l).report tally) ∧
      (s.takesReports l = true → bankDue → tallyDue → t.links.get l = ((s.links.get l).report bank).report tally)

/-! Requests on arrival. -/

/-- SELECT, MATTE and the four keyer requests are admitted (R9, R11, R37 to R39, R41, R44): every bus, source, mode and action; the
colour, clip and gain clamped and never refused; mask coordinates as received; a keyer request in the group of its keyer. -/
def Obligations.PictureRequestsAdmitted : Prop :=
  ∀ (s : State) (l : Link) (tag : Byte),
    (∀ bus src, s.Admits l (.select bus src) →
      exec (.select l tag ⟨[if bus = .a then 0 else 1, Source.code src], []⟩) s = .next (s.admitted l tag (.select bus src))) ∧
    (∀ y cb cr : Word16,
      let m : Matte := { y := max 64 (min y.toNat 940), cb := max 64 (min cb.toNat 960), cr := max 64 (min cr.toNat 960) }
      s.Admits l (.matte m) → exec (.matte l tag ⟨y.bytes ++ cb.bytes ++ cr.bytes, []⟩) s = .next (s.admitted l tag (.matte m))) ∧
    ∀ k : Keyer,
      (∀ bus src, s.Admits l (.keySelect k bus src) →
        exec (.keySelect l tag ⟨[Keyer.code k, if bus = .fill then 0 else 1, Source.code src], []⟩) s
          = .next (s.admitted l tag (.keySelect k bus src))) ∧
      (∀ (mode : KeyMode) (clip gain : Word16) (invert : Bool),
        let a : Action := .keySetup k mode (min clip.toNat 1023) (min gain.toNat 16383) invert
        s.Admits l a →
        exec (.keySetup l tag ⟨[Keyer.code k, mode.code] ++ clip.bytes ++ gain.bytes ++ [bit invert], []⟩) s
          = .next (s.admitted l tag a)) ∧
      (∀ (mode : MaskMode) (left right top bottom : Word16),
        let a : Action := .keyMask k mode left.toNat right.toNat top.toNat bottom.toNat
        s.Admits l a →
        exec (.keyMask l tag ⟨[Keyer.code k, mode.code] ++ left.bytes ++ right.bytes ++ top.bytes ++ bottom.bytes, []⟩) s
          = .next (s.admitted l tag a)) ∧
      (∀ action, s.Admits l (.keyCut k action) →
        exec (.keyCut l tag ⟨[Keyer.code k, action.code], []⟩) s = .next (s.admitted l tag (.keyCut k action)))

/-- The queued requests of TRANS are admitted (R47, R51, R54, R58, R62, R75), softness, rate, L, U and W clamped. -/
def Obligations.TransitionRequestsAdmitted : Prop :=
  ∀ (s : State) (l : Link) (tag : Byte),
    (∀ m : ElementSet, m.Nonempty → s.Admits l (.nextSet m) →
      exec (.nextSet l tag ⟨[m.bkgd, m.keys.k1, m.keys.k2, m.keys.k3, m.keys.k4].map bit, []⟩) s
        = .next (s.admitted l tag (.nextSet m))) ∧
    (∀ (type : TransitionType) (pattern : Pattern) (e d : Word16) (reverse flipFlop : Bool),
      let u : TransitionSetup := { type := type, pattern := pattern, softness := min e.toNat 256,
                                   rate := max 1 (min d.toNat 999), reverse := reverse, flipFlop := flipFlop }
      s.Admits l (.transitionSetup u) →
      exec (.transitionSetup l tag ⟨[type.code, pattern.code] ++ e.bytes ++ d.bytes ++ [bit reverse, bit flipFlop], []⟩) s
        = .next (s.admitted l tag (.transitionSetup u))) ∧
    (∀ lo up w : Word16,
      let a : Action := .faderSetup (min lo.toNat 1023) (max 3072 (min up.toNat 4095)) (max 1 (min w.toNat 16))
      s.Admits l a → exec (.faderSetup l tag ⟨lo.bytes ++ up.bytes ++ w.bytes, []⟩) s = .next (s.admitted l tag a)) ∧
    (s.Admits l .auto → exec (.auto l tag ⟨[], []⟩) s = .next (s.admitted l tag .auto)) ∧
    (s.Admits l .cut → exec (.cut l tag ⟨[], []⟩) s = .next (s.admitted l tag .cut)) ∧
    (∀ i j k m : Keyer, [i, j, k, m].Nodup → s.Admits l (.keyOrder [i, j, k, m]) →
      exec (.keyOrder l tag ⟨[Keyer.code i, Keyer.code j, Keyer.code k, Keyer.code m], []⟩) s
        = .next (s.admitted l tag (.keyOrder [i, j, k, m])))

/-- RECALL, a drained RELEASE, SET FORMAT and SET OUTPUT RANGE are admitted (R33, R112, R128, R142). And R87: queued requests of
several links that reach the queue together, in whatever order they are listed, are taken in ascending link number: each that finds
room joins the tail, and each after those that fill the queue is refused with QUEUE_FULL. That requests which come together are one
command is the model's choice (log 38). -/
def Obligations.OtherRequestsAdmitted : Prop :=
  (∀ (s : State) (es first last : List Entry), (∀ e ∈ es, e.action.Sendable ∧ s.Admits e.link e.action) →
    es.Pairwise (fun e f => (Link.code e.link).toNat < (Link.code f.link).toNat) →
    es = first ++ last → s.queue.length + first.length ≤ 16 → (last ≠ [] → s.queue.length + first.length = 16) →
    let frame (e : Entry) : RequestFrame := ⟨e.link, e.action.kind.code, e.tag, e.action.params⟩
    let admitted : State := first.foldl (fun u e => u.admitted e.link e.tag e.action) s
    let t : State :=
      last.foldl (fun u e => (u.heard e.link).refused e.link e.tag e.action.kind.code .queueFull e.group) admitted
    t.queue = s.queue ++ first ∧
    ∀ e rest, (e :: rest).Perm es →
      exec (e.action.kind.requestWith e.link e.tag e.action.params (rest.map frame)) s = .next t) ∧
  ∀ (s : State) (l : Link) (tag : Byte),
    (∀ (r : Register) (p : PartSet), p.isEmpty = false → s.Admits l (.recallEffects r p) →
      exec (.recallEffects l tag ⟨Register.code r :: ([p.bkgd, p.trans, p.keys.k1, p.keys.k2, p.keys.k3, p.keys.k4].map bit), []⟩) s
        = .next (s.admitted l tag (.recallEffects r p))) ∧
    (∀ g, s.Admits l (.release (.group g)) →
      exec (.release l tag ⟨[0, Group.code g, 1], []⟩) s = .next (s.admitted l tag (.release (.group g)))) ∧
    (∀ b, s.Admits l (.release .keyers) → exec (.release l tag ⟨[1, b, 1], []⟩) s = .next (s.admitted l tag (.release .keyers))) ∧
    (∀ b, s.Admits l (.release .all) → exec (.release l tag ⟨[2, b, 1], []⟩) s = .next (s.admitted l tag (.release .all))) ∧
    (∀ f, s.Admits l (.setFormat f) → exec (.setFormat l tag ⟨[f.code], []⟩) s = .next (s.admitted l tag (.setFormat f))) ∧
    (∀ r, s.Admits l (.setOutputRange r) →
      exec (.setOutputRange l tag ⟨[r.code], []⟩) s = .next (s.admitted l tag (.setOutputRange r)))

/-- R88: the checks of a queued request after its values, in their order: barred, holder, queue room, lock. The first that fails
decides; the request is answered REFUSED, logged, and changes nothing else. -/
def Obligations.ArrivalRefusals : Prop :=
  ∀ (s : State) (l : Link) (tag : Byte) (a : Action), a.Sendable → s.Serves l →
    let out (reason : Reason) := exec (a.kind.request l tag a.params) s = .next ((s.heard l).refused l tag a.kind.code reason a.group)
    (∀ g, a.group = some g → s.barredFrom l g = true → out .barred) ∧
    (∀ g h, a.group = some g → s.barredFrom l g = false → s.holder g = some h → h ≠ l → out .notHolder) ∧
    ((∀ g, a.group = some g → s.MayUse l g) →
      (16 ≤ s.queue.length → out .queueFull) ∧
      (s.queue.length < 16 → a.lockable = true → s.setup.lock = true → out .locked))

/-- R88, R152: a request of any kind with a body of the wrong length is refused with BAD_LENGTH before anything else is read; one that
finds every reply slot occupied is discarded unanswered and counted, except that FADER and WARM RESET take a slot only for a
refusal. -/
def Obligations.LengthsAndSlots : Prop :=
  ∀ (s : State) (l : Link) (tag : Byte) (k : Kind) (ps : List Byte), s.setup.phase = .running → s.enabled l = true →
    let lost (t : State) : State := { t with links := t.links.set l (t.links.get l).lost }
    (ps.length + 2 ≠ k.bodyLength → (s.links.get l).slotsUsed < 12 →
      exec (k.request l tag ps) s = .next ((s.heard l).refused l tag k.code .badLength none)) ∧
    (12 ≤ (s.links.get l).slotsUsed → (k ≠ .fader ∧ k ≠ .warmReset) ∨ ps.length + 2 ≠ k.bodyLength →
      exec (k.request l tag ps) s = .next (lost (s.heard l)))

/-- The values the kinds refuse (R5, R9, R33, R37 to R39, R41, R44, R47, R51, R54, R103, R110, R113, R118, R122, R125, R132, R141,
R142, R155, R159, R160): each is answered BAD_VALUE before any check of groups, holders or room. That a keyer request with a
valid keyer number and another bad field is logged with the group of that keyer is log 22 (DEDUCED). -/
def Obligations.UndefinedValues : Prop :=
  ∀ (s : State) (l : Link) (tag : Byte), s.Serves l →
    let out (k : Kind) (ps : List Byte) (g : Option Group) :=
      exec (k.request l tag ps) s = .next ((s.heard l).refused l tag k.code .badValue g)
    let flag (b : Byte) : Prop := b.toNat ≤ 1
    (∀ bus src : Byte, ¬ (flag bus ∧ 1 ≤ src.toNat ∧ src.toNat ≤ 14) → out .select [bus, src] (some .bkgd)) ∧
    (∀ f f1 f2 f3 f4 : Byte, ¬ (flag f ∧ flag f1 ∧ flag f2 ∧ flag f3 ∧ flag f4) ∨ (f = 0 ∧ f1 = 0 ∧ f2 = 0 ∧ f3 = 0 ∧ f4 = 0) →
      out .nextSet [f, f1, f2, f3, f4] (some .trans)) ∧
    (∀ t p e1 e0 d1 d0 r x : Byte, ¬ (flag t ∧ p.toNat ≤ 3 ∧ flag r ∧ flag x) →
      out .transitionSetup [t, p, e1, e0, d1, d0, r, x] (some .trans)) ∧
    (∀ a b c d : Byte, ¬ ([a.toNat, b.toNat, c.toNat, d.toNat].Perm [1, 2, 3, 4]) → out .keyOrder [a, b, c, d] (some .trans)) ∧
    (∀ k b1 b2 b3 b4 b5 b6 b7 b8 b9 : Byte, ¬ (1 ≤ k.toNat ∧ k.toNat ≤ 4) → out .keySelect [k, b1, b2] none ∧
      out .keySetup [k, b1, b2, b3, b4, b5, b6] none ∧ out .keyMask [k, b1, b2, b3, b4, b5, b6, b7, b8, b9] none ∧
      out .keyCut [k, b1] none) ∧
    (∀ (k : Keyer) (bus src : Byte), ¬ (flag bus ∧ 1 ≤ src.toNat ∧ src.toNat ≤ 14) →
      out .keySelect [Keyer.code k, bus, src] (some (Keyer.group k))) ∧
    (∀ (k : Keyer) (m c1 c0 g1 g0 i : Byte), ¬ (m.toNat ≤ 2 ∧ flag i) →
      out .keySetup [Keyer.code k, m, c1, c0, g1, g0, i] (some (Keyer.group k))) ∧
    (∀ (k : Keyer) (m l1 l0 r1 r0 t1 t0 b1 b0 : Byte), 3 ≤ m.toNat →
      out .keyMask [Keyer.code k, m, l1, l0, r1, r0, t1, t0, b1, b0] (some (Keyer.group k))) ∧
    (∀ (k : Keyer) (a : Byte), 3 ≤ a.toNat → out .keyCut [Keyer.code k, a] (some (Keyer.group k))) ∧
    (∀ (k : Kind) (r f g f1 f2 f3 f4 : Byte), k = .store ∨ k = .recallEffects →
      ¬ (1 ≤ r.toNat ∧ r.toNat ≤ 16 ∧ flag f ∧ flag g ∧ flag f1 ∧ flag f2 ∧ flag f3 ∧ flag f4) ∨
        (f = 0 ∧ g = 0 ∧ f1 = 0 ∧ f2 = 0 ∧ f3 = 0 ∧ f4 = 0) → out k [r, f, g, f1, f2, f3, f4] (some .memory)) ∧
    (∀ r : Byte, ¬ (1 ≤ r.toNat ∧ r.toNat ≤ 16) → out .erase [r] (some .memory)) ∧
    (∀ g : Byte, 8 ≤ g.toNat → out .claim [g] none) ∧
    (∀ c g d : Byte, 3 ≤ c.toNat ∨ ¬ flag d ∨ (c = 0 ∧ 8 ≤ g.toNat) → out .release [c, g, d] none) ∧
    (∀ w : Byte, ¬ flag w → out .walkMemory [w] none ∧ out .walkHoldings [w] none) ∧
    (∀ t : Byte, ¬ (1 ≤ t.toNat ∧ t.toNat ≤ 4) → out .readCounters [t] none) ∧
    (∀ n : Byte, ¬ (1 ≤ n.toNat ∧ n.toNat ≤ 8) → out .readLog [n] none) ∧
    (∀ f : Byte, 4 ≤ f.toNat → out .setFormat [f] (some .setup)) ∧
    (∀ m : Byte, ¬ flag m → out .setOutputRange [m] (some .setup) ∧ out .setRephase [m] (some .setup)) ∧
    (∀ t e r1 r0 g0 g1 g2 g3 g4 g5 g6 g7 r : Byte, ¬ (1 ≤ t.toNat ∧ t.toNat ≤ 4 ∧ flag e ∧ flag g0 ∧ flag g1 ∧ flag g2 ∧ flag g3
      ∧ flag g4 ∧ flag g5 ∧ flag g6 ∧ flag g7 ∧ flag r) →
      out .setLink [t, e, r1, r0, g0, g1, g2, g3, g4, g5, g6, g7, r] (some .setup)) ∧
    (∀ g h : Byte, 8 ≤ g.toNat ∨ ¬ (1 ≤ h.toNat ∧ h.toNat ≤ 4) → out .assignStatic [g, h] (some .setup)) ∧
    (∀ g : Byte, 8 ≤ g.toNat → out .unassignStatic [g] (some .setup)) ∧
    (∀ n : Byte, 9 ≤ n.toNat → out .clearLog [n] (some .setup))

/-! The fader's readings and the effects registers. -/

/-- R73: a FADER from the holder of TRANS is accepted at once and unanswered, its reading clamped, in every transition state and
whatever the reply slots; any other is refused. -/
def Obligations.FaderReadings : Prop :=
  ∀ (s : State) (l : Link) (tag : Byte) (reading : Word16), s.setup.phase = .running → s.enabled l = true →
    let out (reason : Reason) := exec (.fader l tag reading.bytes) s = .next ((s.heard l).refused l tag 0x0D reason (some .trans))
    (s.barredFrom l .trans = false → s.holder .trans = some l →
      exec (.fader l tag reading.bytes) s = .next (State.worked
        { s.heard l with bank := { s.bank with fader := { s.bank.fader with reading := min reading.toNat 4095, valid := true } } }
        l .trans)) ∧
    ((s.links.get l).slotsUsed < 12 →
      (s.barredFrom l .trans = true → out .barred) ∧
      (s.barredFrom l .trans = false → s.holder .trans = none → out .notHeld) ∧
      (s.barredFrom l .trans = false → (∃ h, s.holder .trans = some h ∧ h ≠ l) → out .notHolder)) ∧
    (12 ≤ (s.links.get l).slotsUsed → s.barredFrom l .trans = true ∨ s.holder .trans ≠ some l →
      exec (.fader l tag reading.bytes) s =
        .next { s.heard l with links := (s.heard l).links.set l ((s.heard l).links.get l).lost })

/-- R90, R105, R125 to R127: STORE captures the named parts of the bank as it stands, ERASE empties the register, both at once, with
the sender's mark; both are refused where the link is barred from MEMORY or another holds it. -/
def Obligations.EffectsRegisters : Prop :=
  ∀ (s : State) (l : Link) (tag : Byte) (r : Register), s.Serves l →
    (∀ p : PartSet, p.isEmpty = false →
      let ps := Register.code r :: ([p.bkgd, p.trans, p.keys.k1, p.keys.k2, p.keys.k3, p.keys.k4].map bit)
      let captured : Effects := {
        bkgd := if p.bkgd then some { a := s.bank.a, b := s.bank.b } else none
        trans := if p.trans then some { nextSet := s.bank.nextSet, setup := s.bank.setup, stack := s.bank.stack } else none
        keys := .ofFn fun k => if p.keys.get k then
          some ⟨s.bank.settings.get k, s.bank.fill.get k, s.bank.source.get k, s.bank.onAir.get k⟩ else none }
      (s.MayUse l .memory → exec (.store l tag ps) s = .next ((State.worked
        { s.heard l with memory := { s.memory with registers := s.memory.registers.set r captured } } l .memory).said l
          (.done tag 0x18 ps))) ∧
      (s.barredFrom l .memory = true →
        exec (.store l tag ps) s = .next ((s.heard l).refused l tag 0x18 .barred (some .memory))) ∧
      (∀ h, s.barredFrom l .memory = false → s.holder .memory = some h → h ≠ l →
        exec (.store l tag ps) s = .next ((s.heard l).refused l tag 0x18 .notHolder (some .memory)))) ∧
    (s.MayUse l .memory →
      let held := s.memory.registers.get r
      let emptied := s.memory.registers.set r ⟨none, none, .const none⟩
      exec (.erase l tag [Register.code r]) s = .next ((State.worked
        { s.heard l with memory := { s.memory with registers := emptied } } l .memory).said l
          (.done tag 0x1A (Register.code r :: bit held.bkgd.isSome :: bit held.trans.isSome
            :: Keyer.all.map fun k => bit (held.keys.get k).isSome)))) ∧
    (s.barredFrom l .memory = true →
      exec (.erase l tag [Register.code r]) s = .next ((s.heard l).refused l tag 0x1A .barred (some .memory))) ∧
    (∀ h, s.barredFrom l .memory = false → s.holder .memory = some h → h ≠ l →
      exec (.erase l tag [Register.code r]) s = .next ((s.heard l).refused l tag 0x1A .notHolder (some .memory)))

/-- What STORE captured, RECALL brings back: whatever the bank did in between, once it is in IDLE in the same format a RECALL of all
parts by a link they are permitted to sets every item that a register holds to what it was (R126, R130). -/
def Obligations.RecallRestores : Prop :=
  ∀ (before now : Bank) (f : Format),
    let every : PartSet := { bkgd := true, trans := true, keys := .const true }
    before.Lawful f →
      now.recall f every (before.capture every) = { before with
        matte := now.matte, state := now.state, position := now.position, count := now.count, fader := now.fader }

/-! Holdings. -/

/-- R94, R106, R121: a change of the holdings table. The entries whose link loses their group, or whose group passes to another link,
leave the queue, the rest keeping their order; each is answered WITHDRAWN; where the holder of TRANS changes the fader is made not
live and its reading invalid; a HOLDINGS report is posted where a holder or a kind changed; nothing else changes.
The same without the report is the change of one CLAIM among several taken together (R109). -/
def Obligations.HoldingChanges : Prop :=
  ∀ (s : State) (table : PerGroup Holding),
    let t := s.changeHoldings table
    let u := s.replaceHoldings table
    let old (g : Group) : Option Link := (s.arbiter.holdings.get g).holder
    let new (g : Group) : Option Link := (table.get g).holder
    let goes (e : Entry) : Bool := decide (∃ g, e.group = some g ∧ old g ≠ new g ∧
      (old g = some e.link ∨ (new g ≠ none ∧ new g ≠ some e.link)))
    let report : Message := .holdings s.reference.frameCount (.ofFn fun g => (table.get g).shown)
    let left (l : Link) : LinkPort :=
      let p := s.links.get l
      let mine := (s.queue.filter goes).filter fun e => e.link == l
      { p with
        reserved := p.reserved - mine.length
        transmit := p.transmit ++ mine.map fun e => .refused e.tag e.action.kind.code .withdrawn }
    let shown (h : PerGroup Holding) : List (Option (Link × HoldingKind)) := Group.all.map fun g => (h.get g).shown
    t = { s with
      bank := if old .trans = new .trans then s.bank
        else { s.bank with fader := { s.bank.fader with live := false, valid := false } }
      arbiter := { s.arbiter with holdings := table }
      queue := s.queue.filter fun e => !goes e
      links := t.links
      log := (s.queue.filter goes).foldl
        (fun log e => log.note ⟨e.link, e.action.kind.code, .withdrawn, e.group, s.reference.frameCount, 1⟩) s.log } ∧
    (∀ l, let q := left l
      t.links.get l = if shown s.arbiter.holdings ≠ shown table ∧ s.setup.phase = .running ∧ s.takesReports l = true
        then q.report report else q) ∧
    u = { t with links := u.links } ∧
    ∀ l, u.links.get l = left l

/-- R107, R108: the outcomes of a CLAIM: barred, taken free, already held, taken over from a lower rank, or denied; the HOLDINGS
report stands ahead of the DONE (log 17, DEDUCED). And R109: of two CLAIMs of one free group that reach the arbiter together, in
whatever order they are listed, the one of the lower link is taken first; the other takes over where it outranks it and is denied
where it does not; and one HOLDINGS report follows both answers, with the holder in the end (R121). That CLAIMs taken together are
one command is the model's choice (log 38). -/
def Obligations.Claims : Prop :=
  (∀ (s : State) (l : Link) (tag : Byte) (g : Group), s.Serves l →
    let c : Instr := .claim l tag ⟨[Group.code g], []⟩
    let takes (data : List Byte) : State :=
      (((s.heard l).reserved l).changeHoldings (s.arbiter.holdings.set g (.acquired l true))).answer l tag .claim (Group.code g :: data)
    let denied : State := (s.heard l).refused l tag 0x20 .claimDenied (some g)
    (s.barredFrom l g = true → exec c s = .next ((s.heard l).refused l tag 0x20 .barred (some g))) ∧
    (s.barredFrom l g = false →
      (s.arbiter.holdings.get g = .free → exec c s = .next (takes [0, 0])) ∧
      (∀ m, s.arbiter.holdings.get g = .acquired l m →
        exec c s = .next (((s.heard l).worked l g).said l (.done tag 0x20 [Group.code g, 1, 0]))) ∧
      (s.arbiter.holdings.get g = .static l → exec c s = .next ((s.heard l).said l (.done tag 0x20 [Group.code g, 1, 0]))) ∧
      (∀ h m, h ≠ l → s.arbiter.holdings.get g = .acquired h m →
        ((s.arbiter.attributes.get h).rank < (s.arbiter.attributes.get l).rank → exec c s = .next (takes [2, Link.code h])) ∧
        ((s.arbiter.attributes.get l).rank ≤ (s.arbiter.attributes.get h).rank → exec c s = .next denied)) ∧
      (∀ h, h ≠ l → s.arbiter.holdings.get g = .static h → exec c s = .next denied))) ∧
  ∀ (s : State) (l m : Link) (tag tag' : Byte) (g : Group), s.LinksLaw → (Link.code l).toNat < (Link.code m).toNat →
    s.Serves l → s.Serves m → s.barredFrom l g = false → s.barredFrom m g = false → s.arbiter.holdings.get g = .free →
    let ps := [Group.code g]
    let table (h : Link) : PerGroup Holding := s.arbiter.holdings.set g (.acquired h true)
    let told (u : State) (h : Link) : State :=
      u.postReport (.holdings s.reference.frameCount (.ofFn fun x => ((table h).get x).shown))
    let first : State := (((s.heard l).reserved l).replaceHoldings (table l)).answer l tag .claim [Group.code g, 0, 0]
    let both : State :=
      if (s.arbiter.attributes.get l).rank < (s.arbiter.attributes.get m).rank then
        told ((((first.heard m).reserved m).replaceHoldings (table m)).answer m tag' .claim [Group.code g, 2, Link.code l]) m
      else told ((first.heard m).refused m tag' 0x20 .claimDenied (some g)) l
    exec (.claim l tag ⟨ps, [⟨m, tag', ps⟩]⟩) s = .next both ∧ exec (.claim m tag' ⟨ps, [⟨l, tag, ps⟩]⟩) s = .next both

/-- R110, R111, R93: a RELEASE frees the groups of its scope that its link holds as ACQUIRED, at its arrival or, drained, at its
application, and is refused with NOT_HELD where there are none. The group byte of a scope other than GROUP counts for nothing; the
HOLDINGS report stands ahead of the DONE (log 17, DEDUCED). -/
def Obligations.Releases : Prop :=
  ∀ (s : State) (l : Link) (tag : Byte) (scope : ReleaseScope),
    let named (g : Group) : Bool := match scope with
      | .group x => decide (g = x)
      | .keyers => decide (g = .k1 ∨ g = .k2 ∨ g = .k3 ∨ g = .k4)
      | .all => true
    let frees (g : Group) : Bool := named g &&
      (s.arbiter.holdings.get g == .acquired l true || s.arbiter.holdings.get g == .acquired l false)
    let table : PerGroup Holding := .ofFn fun g => if frees g then .free else s.arbiter.holdings.get g
    let data := Group.all.map fun g => bit (frees g)
    let asks (ps : List Byte) : Prop := match scope with
      | .group x => ps = [0, Group.code x, 0]
      | .keyers => ∃ b : Byte, ps = [1, b, 0]
      | .all => ∃ b : Byte, ps = [2, b, 0]
    (s.Serves l → ∀ ps, asks ps →
      ((∀ g, frees g = false) →
        exec (.release l tag ⟨ps, []⟩) s = .next ((s.heard l).refused l tag 0x21 .notHeld none)) ∧
      ((∃ g, frees g = true) → exec (.release l tag ⟨ps, []⟩) s =
        .next ((((s.heard l).reserved l).changeHoldings table).answer l tag .release data))) ∧
    (∀ sig, let e : Entry := { link := l, tag := tag, action := .release scope }
      ((∀ g, frees g = false) → s.applyEntry sig e = s.turnedDown e .notHeld) ∧
      ((∃ g, frees g = true) → s.applyEntry sig e = (s.changeHoldings table).carriedOut e data))

/-- R113, R114: ASSIGN STATIC gives the group to the named link as STATIC, from whatever holding it had; UNASSIGN STATIC frees a
STATIC group. Both belong to SETUP and are refused under the lock. The
HOLDINGS report stands ahead of the DONE (log 17, DEDUCED). -/
def Obligations.StaticAssignments : Prop :=
  ∀ (s : State) (l : Link) (tag : Byte) (g : Group), s.Serves l →
    let assign (h : Link) : Instr := .assignStatic l tag [Group.code g, Link.code h]
    let unassign : Instr := .unassignStatic l tag [Group.code g]
    let out (c : Instr) (kind : Byte) (reason : Reason) : Prop :=
      exec c s = .next ((s.heard l).refused l tag kind reason (some .setup))
    let changed (h : Holding) : State := (((s.heard l).reserved l).changeHoldings (s.arbiter.holdings.set g h)).touch l .setup
    (∀ h, s.barredFrom h g = true → out (assign h) 0x35 .badValue) ∧
    (∀ h, s.barredFrom h g = false →
      (s.barredFrom l .setup = true → out (assign h) 0x35 .barred) ∧
      (s.barredFrom l .setup = false → (∃ j, s.holder .setup = some j ∧ j ≠ l) → out (assign h) 0x35 .notHolder) ∧
      (s.MayUse l .setup → s.setup.lock = true → out (assign h) 0x35 .locked) ∧
      (s.MayUse l .setup → s.setup.lock = false →
        exec (assign h) s = .next ((changed (.static h)).answer l tag .assignStatic [Group.code g, Link.code h]))) ∧
    (s.barredFrom l .setup = true → out unassign 0x36 .barred) ∧
    (s.barredFrom l .setup = false → (∃ j, s.holder .setup = some j ∧ j ≠ l) → out unassign 0x36 .notHolder) ∧
    (s.MayUse l .setup → s.setup.lock = true → out unassign 0x36 .locked) ∧
    (s.MayUse l .setup → s.setup.lock = false →
      (∀ h, s.arbiter.holdings.get g = .static h →
        exec unassign s = .next ((changed .free).answer l tag .unassignStatic [Group.code g, Link.code h])) ∧
      ((∀ h, s.arbiter.holdings.get g ≠ .static h) → out unassign 0x36 .notStatic))

/-- R94, R116, R121: a sweep clears set marks and frees the ACQUIRED holdings whose mark was clear, withdrawing their holders'
entries, making the fader not live where TRANS is among them, and posting one HOLDINGS report where any expired. It is taken where
a boundary owes it or the coming boundary would; otherwise nothing changes. That the two may stand in either order is kept by a
mark of the model, and a sweep taken ahead takes the count of the coming boundary with it, so that the counter returns to 0, and
reports with that boundary's frame count (log 8); a cold reset has none (log 25, DEDUCED); entries of different links are answered in queue order (log 16). -/
def Obligations.Sweeps : Prop :=
  ∀ s : State,
    let table : PerGroup Holding := .ofFn fun g => match s.arbiter.holdings.get g with
      | .acquired l true => .acquired l false
      | .acquired _ false => .free
      | h => h
    let due := s.arbiter.sweepMark = .owed ∨
      (s.arbiter.sweepMark = .none ∧ 0 < s.arbiter.sweepPeriod ∧ s.arbiter.sweepPeriod ≤ s.arbiter.sweepCounter + 1 ∧
        s.setup.phase ≠ .coldReset)
    let goes (e : Entry) : Bool := decide (∃ g, e.group = some g ∧ s.arbiter.holdings.get g = .acquired e.link false)
    let expires := ∃ g l, s.arbiter.holdings.get g = .acquired l false
    let count := if s.arbiter.sweepMark = .owed then s.reference.frameCount else s.reference.frameCount + 1
    let report : Message := .holdings count (.ofFn fun g => (table.get g).shown)
    (¬ due → exec .sweep s = .next s) ∧
    (due → ∃ t, exec .sweep s = .next t ∧
      t = { s with
        bank := if s.arbiter.holdings.get .trans ≠ .free ∧ table.get .trans = .free
          then { s.bank with fader := { s.bank.fader with live := false, valid := false } } else s.bank
        arbiter := { s.arbiter with
          holdings := table
          sweepCounter := if s.arbiter.sweepMark = .owed then s.arbiter.sweepCounter else 0
          sweepMark := if s.arbiter.sweepMark = .owed then .none else .ahead }
        queue := s.queue.filter fun e => !goes e
        links := t.links
        log := (s.queue.filter goes).foldl
          (fun log e => log.note ⟨e.link, e.action.kind.code, .withdrawn, e.group, s.reference.frameCount, 1⟩) s.log } ∧
      ∀ l, let p := s.links.get l
        let mine := (s.queue.filter goes).filter fun e => e.link == l
        let q : LinkPort := { p with
          reserved := p.reserved - mine.length
          transmit := p.transmit ++ mine.map fun e => .refused e.tag e.action.kind.code .withdrawn }
        (expires ∧ s.setup.phase = .running ∧ s.takesReports l = true → t.links.get l = q.report report) ∧
        (¬ (expires ∧ s.setup.phase = .running ∧ s.takesReports l = true) → t.links.get l = q))

/-- R118, R119: SET LINK gives the target its attributes, frees the groups it holds as ACQUIRED that were added to its barred set, or
all of them where it is disabled, and withdraws its entries of those groups, or all of them; STATIC holdings stay. It is refused
where a link would disable itself or a static holder would be barred. The withdrawn entries are answered and logged, the report
slots of a link disabled or with reports off are emptied, and one HOLDINGS report is posted where a holding ended, or to a link
newly enabled or with reports newly on, ahead of the DONE (logs 17 and 28, DEDUCED). The flag by which such a link is owed BANK
STATE and TALLY is the model's own (log 27), and a report whose transmission has begun is let go on (log 37). -/
def Obligations.LinkSettings : Prop :=
  ∀ (s : State) (l : Link) (tag : Byte) (target : Link) (enabled reports : Bool) (rank : Word16) (barred : PerGroup Bool),
    s.Serves l →
    let a : LinkAttributes := { enabled := enabled, rank := min rank.toNat 3, barred := barred, reports := reports }
    let fields := Group.all.map fun g => bit (barred.get g)
    let c : Instr := .setLink l tag (Link.code target :: bit enabled :: rank.bytes ++ fields ++ [bit reports])
    let out (reason : Reason) : Prop := exec c s = .next ((s.heard l).refused l tag 0x34 reason (some .setup))
    let wrong := (target = l ∧ enabled = false) ∨ ∃ g, barred.get g = true ∧ s.arbiter.holdings.get g = .static target
    let was := s.arbiter.attributes.get target
    let goes (g : Group) : Bool := (was.enabled && !enabled) || (barred.get g && !was.barred.get g)
    let frees (g : Group) : Bool := goes g &&
      (s.arbiter.holdings.get g == .acquired target true || s.arbiter.holdings.get g == .acquired target false)
    let ends := (was.enabled && !enabled) || (was.reports && !reports)
    let newly := enabled && reports && !(was.enabled && was.reports)
    let added (g : Group) : Bool := barred.get g && !was.barred.get g
    let gone : List Entry := (s.queue.filter fun e => e.link == target && e.group.any added) ++
      if was.enabled && !enabled then s.queue.filter fun e => e.link == target && !e.group.any added else []
    let done : Message := .done tag 0x34 (Link.code target :: bit enabled :: twoBytes (min rank.toNat 3) ++ fields ++ [bit reports])
    (wrong → out .badValue) ∧
    (¬ wrong → s.barredFrom l .setup = true → out .barred) ∧
    (¬ wrong → s.barredFrom l .setup = false → (∃ j, s.holder .setup = some j ∧ j ≠ l) → out .notHolder) ∧
    (¬ wrong → s.MayUse l .setup → s.setup.lock = true → out .locked) ∧
    (¬ wrong → s.MayUse l .setup → s.setup.lock = false → ∃ t, exec c s = .next t ∧
      t = { s with
        bank := if frees .trans then { s.bank with fader := { s.bank.fader with live := false, valid := false } } else s.bank
        arbiter := { s.arbiter with
          attributes := s.arbiter.attributes.set target a
          holdings := marked (.ofFn fun g => if frees g then .free else s.arbiter.holdings.get g) l .setup
          refresh := if newly then s.arbiter.refresh.set target true else s.arbiter.refresh }
        queue := s.queue.filter fun e => !(e.link == target && ((was.enabled && !enabled) || e.group.any goes))
        links := t.links
        log := gone.foldl
          (fun log e => log.note ⟨e.link, e.action.kind.code, .withdrawn, e.group, s.reference.frameCount, 1⟩) s.log } ∧
      (∀ j, let p := (s.heard l).links.get j
        let takes := if j = target then enabled && reports else s.takesReports j
        let told : Bool := takes && (Group.all.any frees || (decide (j = target) && newly))
        let answered : LinkPort := if j = target then { p with
            reserved := p.reserved - gone.length
            transmit := p.transmit ++ gone.map fun e => .refused e.tag e.action.kind.code .withdrawn } else p
        let emptied : LinkPort := if j = target ∧ ends = true
          then { answered with transmit := answered.transmit.filter fun m => m.slot.isNone } else answered
        let reported : LinkPort := if told
          then emptied.report (.holdings s.reference.frameCount (.ofFn fun g => (t.arbiter.holdings.get g).shown)) else emptied
        t.links.get j = if j = l then { reported with transmit := reported.transmit ++ [done] } else reported) ∧
      ((was.enabled = true ∧ enabled = false) ∨ (was.reports = true ∧ reports = false) →
        ∀ m ∈ (t.links.get target).transmit, m.slot = none))

/-! Queries, walks and the immediate setup requests. -/

/-- R48, R85, R99, R143, R147, R155, R159: the queries are answered from the state as it stands, whatever the holdings, and change
nothing but the counters that READ COUNTERS reads, which are zeroed at the same moment. The answer to QUERY BANK item by item: where
a keyer record takes its listed 16 bytes the body has 120 bytes, and where it takes the 15 that R147 counts it has 116; which of the
two is a free value, and so is the coding in 15 bytes (log 34), but in either a record determines its ten items. The fader record is
that after the latest boundary, and F alone is of the moment; F valid and live are those of the boundary (log 36, DEDUCED). -/
def Obligations.Queries : Prop :=
  (∀ (k m : KeySettings) (air air' : Bool),
    (∀ x ∈ [k, m], x.clip < 65536 ∧ x.gain < 65536 ∧ x.left < 65536 ∧ x.right < 65536 ∧ x.top < 65536 ∧ x.bottom < 65536) →
    keyerBytes k air = keyerBytes m air' → k = m ∧ air = air') ∧
  ∀ (s : State) (l : Link) (tag : Byte), s.Serves l →
    let t := s.heard l
    (let b : Bank := { s.bank with fader := { s.settled with reading := s.bank.fader.reading } }
      let record (k : Keyer) : List Byte :=
        let m := b.settings.get k
        let mode : Byte := match m.mode with | .selfKey => 0 | .external => 1 | .linear => 2
        let mask : Byte := match m.maskMode with | .none => 0 | .inside => 1 | .outside => 2
        if Config.keyerRecordsOf15 then (Config.keyerRecordCode (keyerPacked m (b.onAir.get k))).toList
        else [mode] ++ twoBytes m.clip ++ twoBytes m.gain ++ [bit m.invert] ++ [mask] ++ twoBytes m.left ++ twoBytes m.right
          ++ twoBytes m.top ++ twoBytes m.bottom ++ [bit (b.onAir.get k)]
      let data : List Byte :=
        [Source.code b.a, Source.code b.b]
          ++ [Source.code (b.fill.get .K1), Source.code (b.source.get .K1), Source.code (b.fill.get .K2), Source.code (b.source.get .K2),
              Source.code (b.fill.get .K3), Source.code (b.source.get .K3), Source.code (b.fill.get .K4), Source.code (b.source.get .K4)]
          ++ twoBytes b.matte.y ++ twoBytes b.matte.cb ++ twoBytes b.matte.cr
          ++ [(if s.compositor.range = .wide then 0 else 1 : Byte)]
          ++ record .K1 ++ record .K2 ++ record .K3 ++ record .K4
          ++ b.stack.map Keyer.code
          ++ [(match b.state with | .idle => 0 | .runAuto => 1 | .runManual => 2 : Byte)]
          ++ twoBytes b.position ++ twoBytes b.count
          ++ [if b.setup.type = .mix then 0 else 1, b.setup.pattern.code] ++ twoBytes b.setup.softness ++ twoBytes b.setup.rate
          ++ [bit b.setup.reverse, bit b.setup.flipFlop]
          ++ [bit b.nextSet.bkgd, bit (b.nextSet.keys.get .K1), bit (b.nextSet.keys.get .K2), bit (b.nextSet.keys.get .K3),
              bit (b.nextSet.keys.get .K4)]
          ++ twoBytes b.fader.reading ++ [bit b.fader.valid] ++ twoBytes b.fader.filtered
          ++ [if b.fader.direction = .up then 0 else 1, bit b.fader.live] ++ twoBytes b.fader.previous
          ++ twoBytes b.fader.lower ++ twoBytes b.fader.upper ++ [byteOf b.fader.weight]
      exec (.queryBank l tag []) s = .next (t.said l (.done tag 0x28 data)) ∧
      (StackOrder b.stack → (Message.done tag 0x28 data).body.length = if Config.keyerRecordsOf15 then 116 else 120)) ∧
    exec (.queryTally l tag []) s = .next (t.said l (.done tag 0x29
      (Input.all.flatMap fun i => [bit (s.programLine i), bit (s.previewLine i)]))) ∧
    exec (.queryStatus l tag []) s = .next (t.said l (.done tag 0x2A
      ([s.reference.state.code, bit s.reference.eventFlag] ++ (Input.all.map fun i => (s.ports.status.get i).code)
        ++ [bit s.setup.lock, s.setup.record.code, s.reference.policy.code, s.reference.format.code]
        ++ fourBytes s.reference.frameCount))) ∧
    (∀ target, let c := (t.links.get target).counters
      exec (.readCounters l tag [Link.code target]) s = .next (State.said
        { t with links := t.links.set target { t.links.get target with counters := zeroCounters } } l
        (.done tag 0x2D (Link.code target :: twoBytes c.rxGood ++ twoBytes c.rxBad ++ twoBytes c.rxLost
          ++ twoBytes c.doneSent ++ twoBytes c.refusedSent)))) ∧
    (∀ n : Nat, 1 ≤ n → n ≤ 8 →
      (∀ r, s.log.records[n - 1]? = some (some r) →
        exec (.readLog l tag [byteOf n]) s = .next (t.said l (.done tag 0x2E
          ([byteOf n, 1, Link.code r.link, r.kind, r.reason.code, (r.group.map Group.code).getD 255] ++ fourBytes r.frame
            ++ twoBytes r.repeats ++ [bit s.log.overflow])))) ∧
      (s.log.records[n - 1]? = some none →
        exec (.readLog l tag [byteOf n]) s = .next (t.said l (.done tag 0x2E
          ([byteOf n, 0, 0, 0, 0, 0] ++ [0, 0, 0, 0] ++ [0, 0] ++ [bit s.log.overflow])))))

/-- R122, R132: FIRST looks from the first element and NEXT from the one after the link's own cursor; the walk stands on the first
element found, or at END where there is none, and its end flag says that none follows. -/
def Obligations.Walks : Prop :=
  ∀ (s : State) (l : Link) (tag : Byte) (next : Bool), s.Serves l →
    (let stored (r : Register) : Prop := (s.memory.registers.get r).isEmpty = false
      let looked (r : Register) : Prop := next = false ∨ s.memory.walk.get l = .start ∨
        ∃ x, s.memory.walk.get l = .on x ∧ (Register.code x).toNat < (Register.code r).toNat
      let at' (c : Cursor Register) : State :=
        { s.heard l with memory := { s.memory with walk := s.memory.walk.set l c } }
      ((∀ r, looked r → ¬ stored r) → exec (.walkMemory l tag [bit next]) s =
        .next ((at' .finished).said l (.done tag 0x2B [0, 1, 0, 0, 0, 0, 0, 0, 0]))) ∧
      (∀ r, looked r → stored r → (∀ q, looked q → (Register.code q).toNat < (Register.code r).toNat → ¬ stored q) →
        ∀ last : Bool, (last = true ↔ ∀ q, (Register.code r).toNat < (Register.code q).toNat → ¬ stored q) →
        exec (.walkMemory l tag [bit next]) s = .next ((at' (.on r)).said l (.done tag 0x2B
          (1 :: bit last :: Register.code r :: bit (s.memory.registers.get r).bkgd.isSome ::
            bit (s.memory.registers.get r).trans.isSome ::
            Keyer.all.map fun k => bit ((s.memory.registers.get r).keys.get k).isSome))))) ∧
    (let held (g : Group) : Prop := s.arbiter.holdings.get g ≠ .free
      let looked (g : Group) : Prop := next = false ∨ s.arbiter.walk.get l = .start ∨
        ∃ x, s.arbiter.walk.get l = .on x ∧ (Group.code x).toNat < (Group.code g).toNat
      let at' (c : Cursor Group) : State :=
        { s.heard l with arbiter := { s.arbiter with walk := s.arbiter.walk.set l c } }
      ((∀ g, looked g → ¬ held g) → exec (.walkHoldings l tag [bit next]) s =
        .next ((at' .finished).said l (.done tag 0x2C [0, 1, 0, 0, 0, 0]))) ∧
      (∀ g, looked g → held g → (∀ q, looked q → (Group.code q).toNat < (Group.code g).toNat → ¬ held q) →
        ∀ last : Bool, (last = true ↔ ∀ q, (Group.code g).toNat < (Group.code q).toNat → ¬ held q) →
        let shown := match s.arbiter.holdings.get g with
          | .acquired h m => [Link.code h, 0, bit m]
          | .static h => [Link.code h, 1, 0]
          | .free => [0, 0, 0]
        exec (.walkHoldings l tag [bit next]) s = .next ((at' (.on g)).said l (.done tag 0x2C
          (1 :: bit last :: Group.code g :: shown)))))

/-- R115, R140, R141, R157, R160: the immediate setup requests other than SET LINK and the static assignments. Each acts at once,
with the sender's mark, and answers the value set, or the flag or the lock as it stood before; a STATUS report tells of a flag
cleared and of a lock set. A link barred from SETUP, or met by another holder, is refused, and the lock refuses SET REPHASE and
SET AGING alone. The STATUS report stands ahead of the DONE (log 17, DEDUCED); that SET AGING leaves the
sweep mark of the model as it stands is log 8. -/
def Obligations.SetupRequests : Prop :=
  ∀ (s : State) (l : Link) (tag : Byte), s.Serves l →
    (s.MayUse l .setup →
      (s.setup.lock = false →
        (∀ p : RephasePolicy, exec (.setRephase l tag [p.code]) s = .next ((State.worked
          { s.heard l with reference := { s.reference with policy := p } } l .setup).said l (.done tag 0x32 [p.code]))) ∧
        (∀ period : Word16,
          let t := if period = 0 then 0 else max 25 (min period.toNat 16383)
          exec (.setAging l tag period.bytes) s = .next ((State.worked
            { s.heard l with arbiter := { s.arbiter with sweepPeriod := t, sweepCounter := 0 } } l .setup).said l
              (.done tag 0x33 (twoBytes t))))) ∧
      (let cleared : State := { s.heard l with reference := { s.reference with eventFlag := false } };
        exec (.clearReferenceFlag l tag []) s = .next (((if s.reference.eventFlag then cleared.postReport cleared.statusMessage
          else cleared).worked l .setup).said l (.done tag 0x3A [bit s.reference.eventFlag]))) ∧
      (let locked : State := { s.heard l with setup := { s.setup with lock := true } };
        exec (.lockSetup l tag []) s = .next (((if s.setup.lock then s.heard l else locked.postReport locked.statusMessage).worked
          l .setup).said l (.done tag 0x37 [bit s.setup.lock]))) ∧
      exec (.clearLog l tag [0]) s = .next ((State.worked
        { s.heard l with log := { records := [none, none, none, none, none, none, none, none], overflow := false } } l .setup).said l
          (.done tag 0x39 [0])) ∧
      (∀ n : Nat, 1 ≤ n → n ≤ 8 → exec (.clearLog l tag [byteOf n]) s = .next ((State.worked
        { s.heard l with log := { s.log with records := s.log.records.set (n - 1) none } } l .setup).said l
          (.done tag 0x39 [byteOf n])))) ∧
    (∀ (k : Kind) (ps : List Byte),
      (k = .setRephase ∧ (ps = [0] ∨ ps = [1])) ∨ (k = .setAging ∧ ps.length = 2) ∨ (k = .clearReferenceFlag ∧ ps = []) ∨
        (k = .lockSetup ∧ ps = []) ∨ (k = .clearLog ∧ ∃ b : Byte, ps = [b] ∧ b.toNat ≤ 8) →
      let out (reason : Reason) := exec (k.request l tag ps) s = .next ((s.heard l).refused l tag k.code reason (some .setup))
      (s.barredFrom l .setup = true → out .barred) ∧
      (s.barredFrom l .setup = false → (∃ h, s.holder .setup = some h ∧ h ≠ l) → out .notHolder) ∧
      (s.MayUse l .setup → s.setup.lock = true → k = .setRephase ∨ k = .setAging → out .locked))

/-! Resets. -/

/-- R70, R72, R96, R123, R156, R161 to R163: the WARM RESET request, unanswered when carried out, and the two reset lines. A warm reset
empties the queue and the links, frees the ACQUIRED holdings, makes the fader not live, and keeps the bank, the registers, the
setup, the log and the reference; a cold reset returns everything to its cold value. WARM RESET is carried out with every reply
slot occupied too, and a refusal that finds none free is lost and counted (R152). The two status lines in each phase (R164). The
model's own: the timer's phase (log 5), a transmission ended at once (log 19), registers empty at the assertion (log 23), a second
assertion of a line and a release of one not asserted (log 24). -/
def Obligations.Resets : Prop :=
  ∀ s : State,
    let warm : State := { s with
      links := .const { receiver := .hunt, reserved := 0, transmit := [], sending := none,
                        counters := { rxGood := 0, rxBad := 0, rxLost := 0, doneSent := 0, refusedSent := 0 } }
      queue := []
      bank := { s.bank with fader := { s.bank.fader with
        live := false
        valid := s.bank.fader.valid && decide (s.arbiter.holdings.get .trans = .static .L1 ∨
          s.arbiter.holdings.get .trans = .static .L2 ∨ s.arbiter.holdings.get .trans = .static .L3 ∨
          s.arbiter.holdings.get .trans = .static .L4) } }
      arbiter := { s.arbiter with
        holdings := .ofFn fun g => match s.arbiter.holdings.get g with | .static h => .static h | _ => .free
        walk := .const .start }
      memory := { s.memory with walk := .const .start } }
    let lost (l : Link) : State := { s.heard l with links := (s.heard l).links.set l ((s.heard l).links.get l).lost }
    ((s.setup.phase = .coldReset ∨ (∃ c, s.setup.phase = .warmReset c) → s.statusLines = (false, false)) ∧
      ((∃ c, s.setup.phase = .initialising c) → s.statusLines = (false, true)) ∧
      (s.setup.phase = .running → s.reference.state ≠ .locked → s.statusLines = (true, false)) ∧
      (s.setup.phase = .running → s.reference.state = .locked → s.statusLines = (true, true))) ∧
    (∀ l tag, s.setup.phase = .running → s.enabled l = true →
      (s.MayUse l .setup → exec (.warmReset l tag []) s =
        .next { warm with setup := { s.setup with record := .warmRequest, phase := .initialising false } }) ∧
      ((s.links.get l).slotsUsed < 12 →
        (s.barredFrom l .setup = true →
          exec (.warmReset l tag []) s = .next ((s.heard l).refused l tag 0x38 .barred (some .setup))) ∧
        (s.barredFrom l .setup = false → (∃ h, s.holder .setup = some h ∧ h ≠ l) →
          exec (.warmReset l tag []) s = .next ((s.heard l).refused l tag 0x38 .notHolder (some .setup)))) ∧
      (12 ≤ (s.links.get l).slotsUsed → s.barredFrom l .setup = true ∨ (∃ h, s.holder .setup = some h ∧ h ≠ l) →
        exec (.warmReset l tag []) s = .next (lost l))) ∧
    (s.setup.coldLine = false → s.setup.warmLine = false →
      exec .warmResetAsserted s = .next { warm with setup := { s.setup with
        record := if s.setup.phase.followsCold then s.setup.record else .warmLine
        warmLine := true
        phase := match s.setup.phase with
          | .initialising c => .warmReset c | .running => .warmReset false | p => p } }) ∧
    (s.setup.coldLine = true ∨ s.setup.warmLine = true →
      exec .warmResetAsserted s = .next { s with setup := { s.setup with warmLine := true } }) ∧
    exec .warmResetReleased s = .next { s with setup := { s.setup with
      warmLine := false, phase := match s.setup.phase with | .warmReset c => .initialising c | p => p } } ∧
    exec .coldResetAsserted s = .next { State.reset with
      setup := { lock := false, record := .cold, coldLine := true, warmLine := s.setup.warmLine, phase := .coldReset }
      reference := { State.reset.reference with
        lastBoundary := s.reference.lastBoundary, nextBoundary := s.reference.nextBoundary }
      pending := s.pending } ∧
    (∀ due, s.setup.phase = .coldReset → exec (.coldResetReleased due) s = .next { s with
      setup := { s.setup with coldLine := false, phase := .initialising true }
      reference := { s.reference with lastBoundary := due - s.reference.format.period, nextBoundary := due } }) ∧
    (∀ due, s.setup.phase ≠ .coldReset →
      exec (.coldResetReleased due) s = .next { s with setup := { s.setup with coldLine := false } })

/-- R102, R123, R162, R163: the first boundary after a reset, taken by the timer or at a pulse (R138, R139), ends initialisation and posts
STATUS, HOLDINGS, BANK STATE and TALLY, in that order, to every link that is enabled with reports on. -/
def Obligations.InitialisationEnds : Prop :=
  ∀ (s : State) (c : Bool) (sig : PerInput InputSignal), s.RestartLaw → s.setup.phase = .initialising c →
    exec (.frameBoundary sig) s = .next (s.boundary sig s.reference.nextBoundary) ∧
    ∀ instant : Nat, let t := s.boundary sig instant
      t.setup = { s.setup with phase := .running } ∧
      ∀ l, t.links.get l = { freshPort with transmit := if s.takesReports l then
        [.status { state := t.reference.state, eventFlag := t.reference.eventFlag, inputs := t.ports.status,
                   lock := t.setup.lock, record := t.setup.record },
         .holdings t.reference.frameCount (.ofFn fun g => (t.arbiter.holdings.get g).shown),
         .bankState t.reference.frameCount t.bank.contents,
         .tally t.reference.frameCount t.bank.tally] else [] }

/-! The links. -/

/-- R120, R149 to R154: what else happens on a link: a good frame of an undefined kind is refused with BAD_KIND, one on a disabled link
is counted and no more, a discarded frame and an expired gap count RX_BAD and return the receiver to HUNT, and the transmitter takes
the head of its queue and counts the reply it has sent. A discarded frame is counted whatever the receiver's state (log 14); a
discarded frame and an expired gap during a restart have no effect (log 18, DEDUCED). -/
def Obligations.LinkEvents : Prop :=
  ∀ (s : State) (l : Link),
    let p := s.links.get l
    let counted : LinkPort := { p with receiver := .hunt, counters := { p.counters with rxBad := bump p.counters.rxBad } }
    let bad : State := { s with links := s.links.set l counted }
    (∀ kind tag ps, Kind.ofCode kind = none → s.Serves l →
      exec (.undefinedKind l kind tag ps) s = .next ((s.heard l).refused l tag kind .badKind none)) ∧
    (∀ kind tag ps, s.setup.phase = .running → s.enabled l = false →
      exec (.disabledLinkFrame l kind tag ps) s = .next (s.heard l)) ∧
    (∀ cause, s.setup.phase = .running → exec (.frameDiscarded l cause) s = .next bad) ∧
    (∀ cause, s.setup.phase ≠ .running → exec (.frameDiscarded l cause) s = .next s) ∧
    (s.setup.phase = .running → p.receiver ≠ .hunt → exec (.byteGapExpiry l) s = .next bad) ∧
    (s.setup.phase ≠ .running ∨ p.receiver = .hunt → exec (.byteGapExpiry l) s = .next s) ∧
    (∀ m rest, p.sending = none → p.transmit = m :: rest →
      exec (.transmissionBegins l) s = .next { s with links := s.links.set l { p with sending := some m, transmit := rest } }) ∧
    (p.sending ≠ none ∨ p.transmit = [] → exec (.transmissionBegins l) s = .next s) ∧
    (∀ m, p.sending = some m →
      let counters : Counters := { p.counters with
        doneSent := if m.body.head? = some 0x80 then bump p.counters.doneSent else p.counters.doneSent
        refusedSent := if m.body.head? = some 0x81 then bump p.counters.refusedSent else p.counters.refusedSent }
      exec (.transmissionEnds l) s =
        .next { s with links := s.links.set l { p with sending := none, counters := counters } }) ∧
    (p.sending = none → exec (.transmissionEnds l) s = .next s)

/-- R150, R151: the receiver byte by byte: START, LENGTH within 2..60, the body, and CHECK; a length outside, a wrong check and a line
error discard the frame and are counted; a byte in HUNT other than START is ignored; nothing is examined during a restart. -/
def Obligations.BytesReceived : Prop :=
  ∀ (s : State) (l : Link) (b : Byte),
    let p := s.links.get l
    let turned (r : Receiver) : Prop :=
      exec (.byteReceived l b true) s = .next { s with links := s.links.set l { p with receiver := r } }
    let counted : LinkPort := { p with receiver := .hunt, counters := { p.counters with rxBad := bump p.counters.rxBad } }
    let bad : State := { s with links := s.links.set l counted }
    (s.setup.phase ≠ .running → ∀ v, exec (.byteReceived l b v) s = .next s) ∧
    (s.setup.phase = .running →
      (p.receiver = .hunt → exec (.byteReceived l b false) s = .next s) ∧
      (p.receiver ≠ .hunt → exec (.byteReceived l b false) s = .next bad) ∧
      (p.receiver = .hunt → b = 0xA7 → turned .length) ∧
      (p.receiver = .hunt → b ≠ 0xA7 → exec (.byteReceived l b true) s = .next s) ∧
      (p.receiver = .length → 2 ≤ b.toNat → b.toNat ≤ 60 → turned (.body b.toNat [])) ∧
      (p.receiver = .length → b.toNat < 2 ∨ 60 < b.toNat → exec (.byteReceived l b true) s = .next bad) ∧
      (∀ n got, p.receiver = .body n got → got.length + 1 < n → turned (.body n (got ++ [b]))) ∧
      (∀ n got, p.receiver = .body n got → got.length + 1 = n → turned (.check n (got ++ [b]))) ∧
      (∀ n got, p.receiver = .check n got → (n + (got.map BitVec.toNat).sum + b.toNat) % 256 ≠ 0 →
        exec (.byteReceived l b true) s = .next bad))

/-- R145, R148, R150: the bytes of a frame, received one after another, do what the request of its kind does, whatever the state of
the link's attributes; and a frame of an undefined kind likewise. -/
def Obligations.FrameReceived : Prop :=
  ∀ (s : State) (l : Link) (tag : Byte) (ps : List Byte), s.setup.phase = .running → (s.links.get l).receiver = .hunt →
    ps.length ≤ 58 →
    (∀ k : Kind, receiveAll l (frameBytes (k.code :: tag :: ps)) s = exec (k.request l tag ps) s) ∧
    (∀ kind : Byte, Kind.ofCode kind = none →
      receiveAll l (frameBytes (kind :: tag :: ps)) s = exec (.undefinedKind l kind tag ps) s)

/-! The reference. -/

/-- R136 to R140: what a pulse and a missing pulse do in each reference state, with the STATUS report of each change of the state or
the flag. What falls at the instant of a pulse together with its boundary is ordered by the model (logs 10 and 11), a SET
FORMAT of that boundary behind the pulse (log 40), and `within 1 line` includes the line itself (log 12). No second boundary is taken
where the timer has taken that of the window already (log 29, DEDUCED). That in ACQUIRING every irregular pulse restarts the
count, those of a reference faster than the format too, is R137 against R142 (log 41, DEDUCED). -/
def Obligations.ReferenceEvents : Prop :=
  ∀ (s : State) (at' : Nat) (sig : PerInput InputSignal), s.setup.phase ≠ .coldReset → s.reference.Lawful →
    let u := s.reference
    let period := u.format.period
    let good (due : Nat) : Prop := 1000 * at' ≤ 1000 * due + period ∧ 1000 * due ≤ 1000 * at' + period
    let line (b : Nat) : Prop := (at' - b) * u.format.totalLines ≤ period ∧ (b - at') * u.format.totalLines ≤ period
    let inPhase := line u.lastBoundary ∨ line u.nextBoundary
    let c : Instr := .referencePulse at' sig
    let told (v : ReferenceUnit) : State :=
      let t : State := { s with reference := v }
      if v.state = u.state ∧ v.eventFlag = u.eventFlag then t else t.postReport t.statusMessage
    let acquiring : ReferenceUnit :=
      { u with state := .acquiring, goodCount := 1, missingCount := 0, expected := some (at' + period) }
    let lockedAt (next : Nat) : ReferenceUnit :=
      { u with state := .locked, goodCount := 0, missingCount := 0, eventFlag := true, expected := some (at' + period),
               nextBoundary := next }
    let free (flag : Bool) : ReferenceUnit :=
      { u with state := .freeRun, goodCount := 0, missingCount := 0, expected := none, eventFlag := flag }
    (u.state = .freeRun → exec c s = .next (told acquiring) ∧ exec .missingPulse s = .next s) ∧
    (∀ due, u.expected = some due →
      (u.state = .acquiring →
        (¬ good due → exec c s = .next (told acquiring)) ∧
        (good due → u.goodCount < 7 →
          exec c s = .next { s with reference := { u with goodCount := u.goodCount + 1, expected := some (at' + period) } }) ∧
        (good due → u.goodCount = 7 → inPhase →
          exec c s = .next (told (lockedAt (if line u.lastBoundary then at' + period else u.nextBoundary)))) ∧
        (good due → u.goodCount = 7 → ¬ inPhase → exec c s = .next (told
          { u with state := .rephaseWait, goodCount := 0, missingCount := 0, expected := some (at' + period) })) ∧
        exec .missingPulse s = .next (told (free u.eventFlag))) ∧
      (u.state = .rephaseWait →
        (¬ good due → exec c s = .next (told acquiring)) ∧
        (good due → inPhase →
          exec c s = .next (told (lockedAt (if line u.lastBoundary then at' + period else u.nextBoundary)))) ∧
        (good due → ¬ inPhase → u.policy = .immediate ∨ s.bank.state = .idle →
          exec c s = .next ((told (lockedAt u.nextBoundary)).boundary sig at')) ∧
        (good due → ¬ inPhase → u.policy = .atIdle → s.bank.state ≠ .idle →
          exec c s = .next { s with reference := { u with missingCount := 0, expected := some (at' + period) } }) ∧
        (u.missingCount < 2 → exec .missingPulse s =
          .next { s with reference := { u with missingCount := u.missingCount + 1, expected := some (due + period) } }) ∧
        (u.missingCount = 2 → exec .missingPulse s = .next (told (free u.eventFlag)))) ∧
      (u.state = .locked →
        (¬ good due → exec c s = .next s) ∧
        (good due → let t : State := { s with reference :=
            { u with missingCount := 0, expected := some (at' + period), nextBoundary := at' + period } }
          (at' ≤ due → u.nextBoundary ≤ due → exec c s = .next (t.boundary sig at')) ∧
          (due < at' ∨ due < u.nextBoundary → exec c s = .next t)) ∧
        (u.missingCount < 2 → exec .missingPulse s =
          .next { s with reference := { u with missingCount := u.missingCount + 1, expected := some (due + period) } }) ∧
        (u.missingCount = 2 → exec .missingPulse s = .next (told (free true)))))
end

