-- ==== Sys2Proof/Laws/Operands.lean ====
section
/-! SUPPORT. Reading what has been written: the codes of a link and the numbers of two bytes. -/

namespace Sys2Proof.Machine

@[simp] theorem flagOf_bit (b : Bool) : flagOf (bit b) = some b := by cases b <;> rfl

@[simp] theorem sourceOf_code (x : Source) : sourceOf (Source.code x) = some x := by
  rcases x with i | _ | _ <;> [cases i <;> rfl; rfl; rfl]

@[simp] theorem keyerOf_code (k : Keyer) : keyerOf (Keyer.code k) = some k := by cases k <;> rfl

@[simp] theorem groupOf_code (g : Group) : groupOf (Group.code g) = some g := by cases g <;> rfl

@[simp] theorem linkOf_code (l : Link) : linkOf (Link.code l) = some l := by cases l <;> rfl

@[simp] theorem registerOf_code (r : Register) : registerOf (Register.code r) = some r := by cases r <;> rfl

@[simp] theorem typeOf_code (t : TransitionType) : typeOf t.code = some t := by cases t <;> rfl

@[simp] theorem patternOf_code (p : Pattern) : patternOf p.code = some p := by cases p <;> rfl

@[simp] theorem keyModeOf_code (m : KeyMode) : keyModeOf m.code = some m := by cases m <;> rfl

@[simp] theorem maskModeOf_code (m : MaskMode) : maskModeOf m.code = some m := by cases m <;> rfl

@[simp] theorem cutActionOf_code (a : CutAction) : cutActionOf a.code = some a := by cases a <;> rfl

@[simp] theorem formatOf_code (f : Format) : formatOf f.code = some f := by cases f <;> rfl

@[simp] theorem rangeOf_code (r : OutputRange) : rangeOf r.code = some r := by cases r <;> rfl

@[simp] theorem policyOf_code (p : RephasePolicy) : policyOf p.code = some p := by cases p <;> rfl

@[simp] theorem ofCode_code (k : Kind) : Kind.ofCode k.code = some k := by cases k <;> rfl

@[simp] theorem number_bytes (w : Word16) : number ((w >>> 8).setWidth 8) (w.setWidth 8) = w.toNat := by
  simp only [number, BitVec.toNat_setWidth, BitVec.toNat_ushiftRight, Nat.shiftRight_eq_div_pow]
  have := w.isLt
  omega

theorem number_twoBytes (n : Nat) (h : n < 65536) : number (byteOf (n / 256)) (byteOf n) = n := by
  simp only [number, byteOf, BitVec.toNat_ofNat]
  omega

theorem clampNat_eq (v lo hi : Nat) (h : lo ≤ hi) : clampNat v lo hi = max lo (min v hi) := by
  simp only [clampNat]
  split <;> [skip; split] <;> omega

theorem clampInt_eq (v lo hi : Int) (h : lo ≤ hi) : clampInt v lo hi = max lo (min hi v) := by
  simp only [clampInt]
  split <;> [skip; split] <;> omega

/-- A keyer record takes the 15 bytes that R147 counts or the 16 that it lists (log 34). -/
theorem keyerBytes_length (k : KeySettings) (onAir : Bool) :
    (keyerBytes k onAir).length = if Config.keyerRecordsOf15 then 15 else 16 := by
  unfold keyerBytes
  split <;> simp [keyerItems, twoBytes]

/-- The values of the settings that two bytes hold. -/
def KeySettings.InWords (k : KeySettings) : Prop :=
  k.clip < 65536 ∧ k.gain < 65536 ∧ k.left < 65536 ∧ k.right < 65536 ∧ k.top < 65536 ∧ k.bottom < 65536

theorem twoBytes_inj {n m : Nat} (hn : n < 65536) (hm : m < 65536) (h : byteOf (n / 256) = byteOf (m / 256))
    (h' : byteOf n = byteOf m) : n = m := by
  rw [← number_twoBytes n hn, ← number_twoBytes m hm, h, h']

theorem bit_inj {a b : Bool} (h : bit a = bit b) : a = b := by
  have := congrArg flagOf h
  simpa using this

theorem keyMode_inj {a b : KeyMode} (h : a.code = b.code) : a = b := by
  have := congrArg keyModeOf h
  simpa using this

theorem maskMode_inj {a b : MaskMode} (h : a.code = b.code) : a = b := by
  have := congrArg maskModeOf h
  simpa using this

theorem packedModes_inj {a b : KeyMode} {c d : MaskMode} (h : a.code + 16 * c.code = b.code + 16 * d.code) : a = b ∧ c = d := by
  cases a <;> cases b <;> cases c <;> cases d <;> first | exact ⟨rfl, rfl⟩ | exact absurd h (by decide)

/-- The record of a keyer determines its ten items, in either layout (R48, log 34). -/
theorem keyerBytes_inj {k m : KeySettings} {air air' : Bool} (hk : k.InWords) (hm : m.InWords)
    (h : keyerBytes k air = keyerBytes m air') : k = m ∧ air = air' := by
  obtain ⟨k1, k2, k3, k4, k5, k6⟩ := hk
  obtain ⟨m1, m2, m3, m4, m5, m6⟩ := hm
  rcases k with ⟨mode, clip, gain, invert, maskMode, left, right, top, bottom⟩
  rcases m with ⟨mode', clip', gain', invert', maskMode', left', right', top', bottom'⟩
  unfold keyerBytes at h
  split at h
  · have h := congrArg Vector.toList (Config.keyerRecordCode.injective (Vector.toList_inj.1 h))
    simp only [keyerPacked, Vector.toList_mk, List.cons.injEq] at h
    obtain ⟨a, b, b', c, c', d, e, e', f, f', g, g', i, i', j, -⟩ := h
    obtain ⟨rfl, rfl⟩ := packedModes_inj a
    obtain rfl := twoBytes_inj k1 m1 b b'
    obtain rfl := twoBytes_inj k2 m2 c c'
    obtain rfl := bit_inj d
    obtain rfl := twoBytes_inj k3 m3 e e'
    obtain rfl := twoBytes_inj k4 m4 f f'
    obtain rfl := twoBytes_inj k5 m5 g g'
    obtain rfl := twoBytes_inj k6 m6 i i'
    exact ⟨rfl, bit_inj j⟩
  · simp only [keyerItems, twoBytes, List.cons_append, List.nil_append, List.cons.injEq] at h
    obtain ⟨a, b, b', c, c', d, a', e, e', f, f', g, g', i, i', j, -⟩ := h
    obtain rfl := keyMode_inj a
    obtain rfl := maskMode_inj a'
    obtain rfl := twoBytes_inj k1 m1 b b'
    obtain rfl := twoBytes_inj k2 m2 c c'
    obtain rfl := bit_inj d
    obtain rfl := twoBytes_inj k3 m3 e e'
    obtain rfl := twoBytes_inj k4 m4 f f'
    obtain rfl := twoBytes_inj k5 m5 g g'
    obtain rfl := twoBytes_inj k6 m6 i i'
    exact ⟨rfl, bit_inj j⟩

/-- The data of the answer to QUERY BANK, three bytes short of its body (R147). -/
theorem bankBytes_length (b : Bank) (r : OutputRange) (h : StackOrder b.stack) :
    (bankBytes b r).length = if Config.keyerRecordsOf15 then 113 else 117 := by
  have := h.length_eq
  simp [bankBytes, keyerBytes_length, twoBytes, TransitionSetup.bytes, ElementSet.bytes, PerKeyer.toList, Fader.bytes,
    Keyer.all] at *
  split <;> omega

theorem elementSetOf_bytes (m : ElementSet) (h : m.Nonempty) :
    elementSetOf (bit m.bkgd) (bit m.keys.k1) (bit m.keys.k2) (bit m.keys.k3) (bit m.keys.k4) = some m := by
  rcases m with ⟨f, f1, f2, f3, f4⟩
  have hm : (f || f1 || f2 || f3 || f4) = true := by
    rcases h with h | ⟨k, h⟩
    · simp_all
    · cases k <;> simp_all [PerKeyer.get]
  simp only [elementSetOf, flagOf_bit, Option.bind_eq_bind, Option.bind_some, hm, if_true]

theorem partSetOf_bytes (p : PartSet) (h : p.isEmpty = false) :
    partSetOf (bit p.bkgd) (bit p.trans) (bit p.keys.k1) (bit p.keys.k2) (bit p.keys.k3) (bit p.keys.k4) = some p := by
  rcases p with ⟨f, g, f1, f2, f3, f4⟩
  have hm : (f || g || f1 || f2 || f3 || f4) = true := by
    revert f g f1 f2 f3 f4
    decide
  simp only [partSetOf, flagOf_bit, Option.bind_eq_bind, Option.bind_some, hm, if_true]

end Sys2Proof.Machine
end

