-- ==== Sys2Proof/Laws/Tables.lean ====
section
/-! SUPPORT. Reading and writing the tables keyed by links, keyers, groups, inputs and registers. -/

namespace Sys2Proof

/-! Tables keyed by Link. -/

namespace PerLink

variable {α β : Type}

@[simp] theorem get_ofFn (f : Link → α) (k : Link) : (ofFn f).get k = f k := by cases k <;> rfl

@[simp] theorem get_const (v : α) (k : Link) : (const v).get k = v := by simp [const]

@[simp] theorem get_map (f : α → β) (t : PerLink α) (k : Link) : (t.map f).get k = f (t.get k) := by simp [map]

theorem get_set (t : PerLink α) (k j : Link) (v : α) :
    (t.set k v).get j = if j = k then v else t.get j := by simp [set]

@[simp] theorem get_set_self (t : PerLink α) (k : Link) (v : α) : (t.set k v).get k = v := by simp [get_set]

theorem get_set_of_ne (t : PerLink α) {k j : Link} (h : j ≠ k) (v : α) : (t.set k v).get j = t.get j := by
  simp [get_set, h]

theorem get_modify (t : PerLink α) (k j : Link) (f : α → α) :
    (t.modify k f).get j = if j = k then f (t.get k) else t.get j := by simp [modify, get_set]

@[simp] theorem get_modify_self (t : PerLink α) (k : Link) (f : α → α) : (t.modify k f).get k = f (t.get k) := by
  simp [get_modify]

theorem ext_get {t u : PerLink α} (h : ∀ k, t.get k = u.get k) : t = u := by
  cases t; cases u
  simp only [mk.injEq]
  exact ⟨h .L1, h .L2, h .L3, h .L4⟩

@[simp] theorem set_set (t : PerLink α) (k : Link) (v w : α) : (t.set k v).set k w = t.set k w := by
  apply ext_get
  intro j
  simp only [get_set]
  split <;> rfl

theorem set_eq_self (t : PerLink α) (k : Link) (v : α) (h : t.get k = v) : t.set k v = t := by
  apply ext_get
  intro j
  rw [get_set]
  split
  · subst_vars; rfl
  · rfl

theorem modify_eq_set (t : PerLink α) (k : Link) (f : α → α) : t.modify k f = t.set k (f (t.get k)) := rfl

end PerLink

theorem Link.mem_all (k : Link) : k ∈ Link.all := by cases k <;> simp [Link.all]

/-! Tables keyed by Keyer. -/

namespace PerKeyer

variable {α β : Type}

@[simp] theorem get_ofFn (f : Keyer → α) (k : Keyer) : (ofFn f).get k = f k := by cases k <;> rfl

@[simp] theorem get_const (v : α) (k : Keyer) : (const v).get k = v := by simp [const]

@[simp] theorem get_map (f : α → β) (t : PerKeyer α) (k : Keyer) : (t.map f).get k = f (t.get k) := by simp [map]

theorem get_set (t : PerKeyer α) (k j : Keyer) (v : α) :
    (t.set k v).get j = if j = k then v else t.get j := by simp [set]

@[simp] theorem get_set_self (t : PerKeyer α) (k : Keyer) (v : α) : (t.set k v).get k = v := by simp [get_set]

theorem get_set_of_ne (t : PerKeyer α) {k j : Keyer} (h : j ≠ k) (v : α) : (t.set k v).get j = t.get j := by
  simp [get_set, h]

theorem get_modify (t : PerKeyer α) (k j : Keyer) (f : α → α) :
    (t.modify k f).get j = if j = k then f (t.get k) else t.get j := by simp [modify, get_set]

@[simp] theorem get_modify_self (t : PerKeyer α) (k : Keyer) (f : α → α) : (t.modify k f).get k = f (t.get k) := by
  simp [get_modify]

theorem ext_get {t u : PerKeyer α} (h : ∀ k, t.get k = u.get k) : t = u := by
  cases t; cases u
  simp only [mk.injEq]
  exact ⟨h .K1, h .K2, h .K3, h .K4⟩

@[simp] theorem set_set (t : PerKeyer α) (k : Keyer) (v w : α) : (t.set k v).set k w = t.set k w := by
  apply ext_get
  intro j
  simp only [get_set]
  split <;> rfl

theorem set_eq_self (t : PerKeyer α) (k : Keyer) (v : α) (h : t.get k = v) : t.set k v = t := by
  apply ext_get
  intro j
  rw [get_set]
  split
  · subst_vars; rfl
  · rfl

theorem modify_eq_set (t : PerKeyer α) (k : Keyer) (f : α → α) : t.modify k f = t.set k (f (t.get k)) := rfl

end PerKeyer

theorem Keyer.mem_all (k : Keyer) : k ∈ Keyer.all := by cases k <;> simp [Keyer.all]

/-! Tables keyed by Group. -/

namespace PerGroup

variable {α β : Type}

@[simp] theorem get_ofFn (f : Group → α) (k : Group) : (ofFn f).get k = f k := by cases k <;> rfl

@[simp] theorem get_const (v : α) (k : Group) : (const v).get k = v := by simp [const]

@[simp] theorem get_map (f : α → β) (t : PerGroup α) (k : Group) : (t.map f).get k = f (t.get k) := by simp [map]

theorem get_set (t : PerGroup α) (k j : Group) (v : α) :
    (t.set k v).get j = if j = k then v else t.get j := by simp [set]

@[simp] theorem get_set_self (t : PerGroup α) (k : Group) (v : α) : (t.set k v).get k = v := by simp [get_set]

theorem get_set_of_ne (t : PerGroup α) {k j : Group} (h : j ≠ k) (v : α) : (t.set k v).get j = t.get j := by
  simp [get_set, h]

theorem get_modify (t : PerGroup α) (k j : Group) (f : α → α) :
    (t.modify k f).get j = if j = k then f (t.get k) else t.get j := by simp [modify, get_set]

@[simp] theorem get_modify_self (t : PerGroup α) (k : Group) (f : α → α) : (t.modify k f).get k = f (t.get k) := by
  simp [get_modify]

theorem ext_get {t u : PerGroup α} (h : ∀ k, t.get k = u.get k) : t = u := by
  cases t; cases u
  simp only [mk.injEq]
  exact ⟨h .bkgd, h .trans, h .k1, h .k2, h .k3, h .k4, h .memory, h .setup⟩

@[simp] theorem set_set (t : PerGroup α) (k : Group) (v w : α) : (t.set k v).set k w = t.set k w := by
  apply ext_get
  intro j
  simp only [get_set]
  split <;> rfl

theorem set_eq_self (t : PerGroup α) (k : Group) (v : α) (h : t.get k = v) : t.set k v = t := by
  apply ext_get
  intro j
  rw [get_set]
  split
  · subst_vars; rfl
  · rfl

theorem modify_eq_set (t : PerGroup α) (k : Group) (f : α → α) : t.modify k f = t.set k (f (t.get k)) := rfl

end PerGroup

theorem Group.mem_all (k : Group) : k ∈ Group.all := by cases k <;> simp [Group.all]

/-! Tables keyed by Input. -/

namespace PerInput

variable {α β : Type}

@[simp] theorem get_ofFn (f : Input → α) (k : Input) : (ofFn f).get k = f k := by cases k <;> rfl

@[simp] theorem get_const (v : α) (k : Input) : (const v).get k = v := by simp [const]

@[simp] theorem get_map (f : α → β) (t : PerInput α) (k : Input) : (t.map f).get k = f (t.get k) := by simp [map]

theorem get_set (t : PerInput α) (k j : Input) (v : α) :
    (t.set k v).get j = if j = k then v else t.get j := by simp [set]

@[simp] theorem get_set_self (t : PerInput α) (k : Input) (v : α) : (t.set k v).get k = v := by simp [get_set]

theorem get_set_of_ne (t : PerInput α) {k j : Input} (h : j ≠ k) (v : α) : (t.set k v).get j = t.get j := by
  simp [get_set, h]

theorem get_modify (t : PerInput α) (k j : Input) (f : α → α) :
    (t.modify k f).get j = if j = k then f (t.get k) else t.get j := by simp [modify, get_set]

@[simp] theorem get_modify_self (t : PerInput α) (k : Input) (f : α → α) : (t.modify k f).get k = f (t.get k) := by
  simp [get_modify]

theorem ext_get {t u : PerInput α} (h : ∀ k, t.get k = u.get k) : t = u := by
  cases t; cases u
  simp only [mk.injEq]
  exact ⟨h .I1, h .I2, h .I3, h .I4, h .I5, h .I6, h .I7, h .I8, h .I9, h .I10, h .I11, h .I12⟩

@[simp] theorem set_set (t : PerInput α) (k : Input) (v w : α) : (t.set k v).set k w = t.set k w := by
  apply ext_get
  intro j
  simp only [get_set]
  split <;> rfl

theorem set_eq_self (t : PerInput α) (k : Input) (v : α) (h : t.get k = v) : t.set k v = t := by
  apply ext_get
  intro j
  rw [get_set]
  split
  · subst_vars; rfl
  · rfl

theorem modify_eq_set (t : PerInput α) (k : Input) (f : α → α) : t.modify k f = t.set k (f (t.get k)) := rfl

end PerInput

theorem Input.mem_all (k : Input) : k ∈ Input.all := by cases k <;> simp [Input.all]

/-! Tables keyed by Register. -/

namespace PerRegister

variable {α β : Type}

@[simp] theorem get_ofFn (f : Register → α) (k : Register) : (ofFn f).get k = f k := by cases k <;> rfl

@[simp] theorem get_const (v : α) (k : Register) : (const v).get k = v := by simp [const]

@[simp] theorem get_map (f : α → β) (t : PerRegister α) (k : Register) : (t.map f).get k = f (t.get k) := by simp [map]

theorem get_set (t : PerRegister α) (k j : Register) (v : α) :
    (t.set k v).get j = if j = k then v else t.get j := by simp [set]

@[simp] theorem get_set_self (t : PerRegister α) (k : Register) (v : α) : (t.set k v).get k = v := by simp [get_set]

theorem get_set_of_ne (t : PerRegister α) {k j : Register} (h : j ≠ k) (v : α) : (t.set k v).get j = t.get j := by
  simp [get_set, h]

theorem get_modify (t : PerRegister α) (k j : Register) (f : α → α) :
    (t.modify k f).get j = if j = k then f (t.get k) else t.get j := by simp [modify, get_set]

@[simp] theorem get_modify_self (t : PerRegister α) (k : Register) (f : α → α) : (t.modify k f).get k = f (t.get k) := by
  simp [get_modify]

theorem ext_get {t u : PerRegister α} (h : ∀ k, t.get k = u.get k) : t = u := by
  cases t; cases u
  simp only [mk.injEq]
  exact ⟨h .E1, h .E2, h .E3, h .E4, h .E5, h .E6, h .E7, h .E8, h .E9, h .E10, h .E11, h .E12, h .E13, h .E14, h .E15, h .E16⟩

@[simp] theorem set_set (t : PerRegister α) (k : Register) (v w : α) : (t.set k v).set k w = t.set k w := by
  apply ext_get
  intro j
  simp only [get_set]
  split <;> rfl

theorem set_eq_self (t : PerRegister α) (k : Register) (v : α) (h : t.get k = v) : t.set k v = t := by
  apply ext_get
  intro j
  rw [get_set]
  split
  · subst_vars; rfl
  · rfl

theorem modify_eq_set (t : PerRegister α) (k : Register) (f : α → α) : t.modify k f = t.set k (f (t.get k)) := rfl

end PerRegister

theorem Register.mem_all (k : Register) : k ∈ Register.all := by cases k <;> simp [Register.all]

end Sys2Proof
end

