-- ==== Sys2Proof/Laws/State.lean ====
section
/-! SUPPORT. What each update of one block of the state leaves in each field. -/

namespace Sys2Proof.Machine

variable (s : State)

/-! `State.setPorts`. -/

@[simp] theorem State.setPorts_ports (v : Ports) : (s.setPorts v).ports = v := rfl
@[simp] theorem State.setPorts_bank (v : Ports) : (s.setPorts v).bank = s.bank := rfl
@[simp] theorem State.setPorts_compositor (v : Ports) : (s.setPorts v).compositor = s.compositor := rfl
@[simp] theorem State.setPorts_queue (v : Ports) : (s.setPorts v).queue = s.queue := rfl
@[simp] theorem State.setPorts_tally (v : Ports) : (s.setPorts v).tally = s.tally := rfl
@[simp] theorem State.setPorts_reported (v : Ports) : (s.setPorts v).reported = s.reported := rfl
@[simp] theorem State.setPorts_settled (v : Ports) : (s.setPorts v).settled = s.settled := rfl
@[simp] theorem State.setPorts_memory (v : Ports) : (s.setPorts v).memory = s.memory := rfl
@[simp] theorem State.setPorts_arbiter (v : Ports) : (s.setPorts v).arbiter = s.arbiter := rfl
@[simp] theorem State.setPorts_reference (v : Ports) : (s.setPorts v).reference = s.reference := rfl
@[simp] theorem State.setPorts_links (v : Ports) : (s.setPorts v).links = s.links := rfl
@[simp] theorem State.setPorts_setup (v : Ports) : (s.setPorts v).setup = s.setup := rfl
@[simp] theorem State.setPorts_log (v : Ports) : (s.setPorts v).log = s.log := rfl
@[simp] theorem State.setPorts_pending (v : Ports) : (s.setPorts v).pending = s.pending := rfl

/-! `State.setBank`. -/

@[simp] theorem State.setBank_ports (v : Bank) : (s.setBank v).ports = s.ports := rfl
@[simp] theorem State.setBank_bank (v : Bank) : (s.setBank v).bank = v := rfl
@[simp] theorem State.setBank_compositor (v : Bank) : (s.setBank v).compositor = s.compositor := rfl
@[simp] theorem State.setBank_queue (v : Bank) : (s.setBank v).queue = s.queue := rfl
@[simp] theorem State.setBank_tally (v : Bank) : (s.setBank v).tally = s.tally := rfl
@[simp] theorem State.setBank_reported (v : Bank) : (s.setBank v).reported = s.reported := rfl
@[simp] theorem State.setBank_settled (v : Bank) : (s.setBank v).settled = s.settled := rfl
@[simp] theorem State.setBank_memory (v : Bank) : (s.setBank v).memory = s.memory := rfl
@[simp] theorem State.setBank_arbiter (v : Bank) : (s.setBank v).arbiter = s.arbiter := rfl
@[simp] theorem State.setBank_reference (v : Bank) : (s.setBank v).reference = s.reference := rfl
@[simp] theorem State.setBank_links (v : Bank) : (s.setBank v).links = s.links := rfl
@[simp] theorem State.setBank_setup (v : Bank) : (s.setBank v).setup = s.setup := rfl
@[simp] theorem State.setBank_log (v : Bank) : (s.setBank v).log = s.log := rfl
@[simp] theorem State.setBank_pending (v : Bank) : (s.setBank v).pending = s.pending := rfl

/-! `State.setCompositor`. -/

@[simp] theorem State.setCompositor_ports (v : Compositor) : (s.setCompositor v).ports = s.ports := rfl
@[simp] theorem State.setCompositor_bank (v : Compositor) : (s.setCompositor v).bank = s.bank := rfl
@[simp] theorem State.setCompositor_compositor (v : Compositor) : (s.setCompositor v).compositor = v := rfl
@[simp] theorem State.setCompositor_queue (v : Compositor) : (s.setCompositor v).queue = s.queue := rfl
@[simp] theorem State.setCompositor_tally (v : Compositor) : (s.setCompositor v).tally = s.tally := rfl
@[simp] theorem State.setCompositor_reported (v : Compositor) : (s.setCompositor v).reported = s.reported := rfl
@[simp] theorem State.setCompositor_settled (v : Compositor) : (s.setCompositor v).settled = s.settled := rfl
@[simp] theorem State.setCompositor_memory (v : Compositor) : (s.setCompositor v).memory = s.memory := rfl
@[simp] theorem State.setCompositor_arbiter (v : Compositor) : (s.setCompositor v).arbiter = s.arbiter := rfl
@[simp] theorem State.setCompositor_reference (v : Compositor) : (s.setCompositor v).reference = s.reference := rfl
@[simp] theorem State.setCompositor_links (v : Compositor) : (s.setCompositor v).links = s.links := rfl
@[simp] theorem State.setCompositor_setup (v : Compositor) : (s.setCompositor v).setup = s.setup := rfl
@[simp] theorem State.setCompositor_log (v : Compositor) : (s.setCompositor v).log = s.log := rfl
@[simp] theorem State.setCompositor_pending (v : Compositor) : (s.setCompositor v).pending = s.pending := rfl

/-! `State.setQueue`. -/

@[simp] theorem State.setQueue_ports (v : List Entry) : (s.setQueue v).ports = s.ports := rfl
@[simp] theorem State.setQueue_bank (v : List Entry) : (s.setQueue v).bank = s.bank := rfl
@[simp] theorem State.setQueue_compositor (v : List Entry) : (s.setQueue v).compositor = s.compositor := rfl
@[simp] theorem State.setQueue_queue (v : List Entry) : (s.setQueue v).queue = v := rfl
@[simp] theorem State.setQueue_tally (v : List Entry) : (s.setQueue v).tally = s.tally := rfl
@[simp] theorem State.setQueue_reported (v : List Entry) : (s.setQueue v).reported = s.reported := rfl
@[simp] theorem State.setQueue_settled (v : List Entry) : (s.setQueue v).settled = s.settled := rfl
@[simp] theorem State.setQueue_memory (v : List Entry) : (s.setQueue v).memory = s.memory := rfl
@[simp] theorem State.setQueue_arbiter (v : List Entry) : (s.setQueue v).arbiter = s.arbiter := rfl
@[simp] theorem State.setQueue_reference (v : List Entry) : (s.setQueue v).reference = s.reference := rfl
@[simp] theorem State.setQueue_links (v : List Entry) : (s.setQueue v).links = s.links := rfl
@[simp] theorem State.setQueue_setup (v : List Entry) : (s.setQueue v).setup = s.setup := rfl
@[simp] theorem State.setQueue_log (v : List Entry) : (s.setQueue v).log = s.log := rfl
@[simp] theorem State.setQueue_pending (v : List Entry) : (s.setQueue v).pending = s.pending := rfl

/-! `State.setTally`. -/

@[simp] theorem State.setTally_ports (v : Tally) : (s.setTally v).ports = s.ports := rfl
@[simp] theorem State.setTally_bank (v : Tally) : (s.setTally v).bank = s.bank := rfl
@[simp] theorem State.setTally_compositor (v : Tally) : (s.setTally v).compositor = s.compositor := rfl
@[simp] theorem State.setTally_queue (v : Tally) : (s.setTally v).queue = s.queue := rfl
@[simp] theorem State.setTally_tally (v : Tally) : (s.setTally v).tally = v := rfl
@[simp] theorem State.setTally_reported (v : Tally) : (s.setTally v).reported = s.reported := rfl
@[simp] theorem State.setTally_settled (v : Tally) : (s.setTally v).settled = s.settled := rfl
@[simp] theorem State.setTally_memory (v : Tally) : (s.setTally v).memory = s.memory := rfl
@[simp] theorem State.setTally_arbiter (v : Tally) : (s.setTally v).arbiter = s.arbiter := rfl
@[simp] theorem State.setTally_reference (v : Tally) : (s.setTally v).reference = s.reference := rfl
@[simp] theorem State.setTally_links (v : Tally) : (s.setTally v).links = s.links := rfl
@[simp] theorem State.setTally_setup (v : Tally) : (s.setTally v).setup = s.setup := rfl
@[simp] theorem State.setTally_log (v : Tally) : (s.setTally v).log = s.log := rfl
@[simp] theorem State.setTally_pending (v : Tally) : (s.setTally v).pending = s.pending := rfl

/-! `State.setReported`. -/

@[simp] theorem State.setReported_ports (v : BankContents) : (s.setReported v).ports = s.ports := rfl
@[simp] theorem State.setReported_bank (v : BankContents) : (s.setReported v).bank = s.bank := rfl
@[simp] theorem State.setReported_compositor (v : BankContents) : (s.setReported v).compositor = s.compositor := rfl
@[simp] theorem State.setReported_queue (v : BankContents) : (s.setReported v).queue = s.queue := rfl
@[simp] theorem State.setReported_tally (v : BankContents) : (s.setReported v).tally = s.tally := rfl
@[simp] theorem State.setReported_reported (v : BankContents) : (s.setReported v).reported = v := rfl
@[simp] theorem State.setReported_settled (v : BankContents) : (s.setReported v).settled = s.settled := rfl
@[simp] theorem State.setReported_memory (v : BankContents) : (s.setReported v).memory = s.memory := rfl
@[simp] theorem State.setReported_arbiter (v : BankContents) : (s.setReported v).arbiter = s.arbiter := rfl
@[simp] theorem State.setReported_reference (v : BankContents) : (s.setReported v).reference = s.reference := rfl
@[simp] theorem State.setReported_links (v : BankContents) : (s.setReported v).links = s.links := rfl
@[simp] theorem State.setReported_setup (v : BankContents) : (s.setReported v).setup = s.setup := rfl
@[simp] theorem State.setReported_log (v : BankContents) : (s.setReported v).log = s.log := rfl
@[simp] theorem State.setReported_pending (v : BankContents) : (s.setReported v).pending = s.pending := rfl

/-! `State.setSettled`. -/

@[simp] theorem State.setSettled_ports (v : Fader) : (s.setSettled v).ports = s.ports := rfl
@[simp] theorem State.setSettled_bank (v : Fader) : (s.setSettled v).bank = s.bank := rfl
@[simp] theorem State.setSettled_compositor (v : Fader) : (s.setSettled v).compositor = s.compositor := rfl
@[simp] theorem State.setSettled_queue (v : Fader) : (s.setSettled v).queue = s.queue := rfl
@[simp] theorem State.setSettled_tally (v : Fader) : (s.setSettled v).tally = s.tally := rfl
@[simp] theorem State.setSettled_reported (v : Fader) : (s.setSettled v).reported = s.reported := rfl
@[simp] theorem State.setSettled_settled (v : Fader) : (s.setSettled v).settled = v := rfl
@[simp] theorem State.setSettled_memory (v : Fader) : (s.setSettled v).memory = s.memory := rfl
@[simp] theorem State.setSettled_arbiter (v : Fader) : (s.setSettled v).arbiter = s.arbiter := rfl
@[simp] theorem State.setSettled_reference (v : Fader) : (s.setSettled v).reference = s.reference := rfl
@[simp] theorem State.setSettled_links (v : Fader) : (s.setSettled v).links = s.links := rfl
@[simp] theorem State.setSettled_setup (v : Fader) : (s.setSettled v).setup = s.setup := rfl
@[simp] theorem State.setSettled_log (v : Fader) : (s.setSettled v).log = s.log := rfl
@[simp] theorem State.setSettled_pending (v : Fader) : (s.setSettled v).pending = s.pending := rfl

/-! `State.setMemory`. -/

@[simp] theorem State.setMemory_ports (v : EffectsMemory) : (s.setMemory v).ports = s.ports := rfl
@[simp] theorem State.setMemory_bank (v : EffectsMemory) : (s.setMemory v).bank = s.bank := rfl
@[simp] theorem State.setMemory_compositor (v : EffectsMemory) : (s.setMemory v).compositor = s.compositor := rfl
@[simp] theorem State.setMemory_queue (v : EffectsMemory) : (s.setMemory v).queue = s.queue := rfl
@[simp] theorem State.setMemory_tally (v : EffectsMemory) : (s.setMemory v).tally = s.tally := rfl
@[simp] theorem State.setMemory_reported (v : EffectsMemory) : (s.setMemory v).reported = s.reported := rfl
@[simp] theorem State.setMemory_settled (v : EffectsMemory) : (s.setMemory v).settled = s.settled := rfl
@[simp] theorem State.setMemory_memory (v : EffectsMemory) : (s.setMemory v).memory = v := rfl
@[simp] theorem State.setMemory_arbiter (v : EffectsMemory) : (s.setMemory v).arbiter = s.arbiter := rfl
@[simp] theorem State.setMemory_reference (v : EffectsMemory) : (s.setMemory v).reference = s.reference := rfl
@[simp] theorem State.setMemory_links (v : EffectsMemory) : (s.setMemory v).links = s.links := rfl
@[simp] theorem State.setMemory_setup (v : EffectsMemory) : (s.setMemory v).setup = s.setup := rfl
@[simp] theorem State.setMemory_log (v : EffectsMemory) : (s.setMemory v).log = s.log := rfl
@[simp] theorem State.setMemory_pending (v : EffectsMemory) : (s.setMemory v).pending = s.pending := rfl

/-! `State.setArbiter`. -/

@[simp] theorem State.setArbiter_ports (v : Arbiter) : (s.setArbiter v).ports = s.ports := rfl
@[simp] theorem State.setArbiter_bank (v : Arbiter) : (s.setArbiter v).bank = s.bank := rfl
@[simp] theorem State.setArbiter_compositor (v : Arbiter) : (s.setArbiter v).compositor = s.compositor := rfl
@[simp] theorem State.setArbiter_queue (v : Arbiter) : (s.setArbiter v).queue = s.queue := rfl
@[simp] theorem State.setArbiter_tally (v : Arbiter) : (s.setArbiter v).tally = s.tally := rfl
@[simp] theorem State.setArbiter_reported (v : Arbiter) : (s.setArbiter v).reported = s.reported := rfl
@[simp] theorem State.setArbiter_settled (v : Arbiter) : (s.setArbiter v).settled = s.settled := rfl
@[simp] theorem State.setArbiter_memory (v : Arbiter) : (s.setArbiter v).memory = s.memory := rfl
@[simp] theorem State.setArbiter_arbiter (v : Arbiter) : (s.setArbiter v).arbiter = v := rfl
@[simp] theorem State.setArbiter_reference (v : Arbiter) : (s.setArbiter v).reference = s.reference := rfl
@[simp] theorem State.setArbiter_links (v : Arbiter) : (s.setArbiter v).links = s.links := rfl
@[simp] theorem State.setArbiter_setup (v : Arbiter) : (s.setArbiter v).setup = s.setup := rfl
@[simp] theorem State.setArbiter_log (v : Arbiter) : (s.setArbiter v).log = s.log := rfl
@[simp] theorem State.setArbiter_pending (v : Arbiter) : (s.setArbiter v).pending = s.pending := rfl

/-! `State.setReference`. -/

@[simp] theorem State.setReference_ports (v : ReferenceUnit) : (s.setReference v).ports = s.ports := rfl
@[simp] theorem State.setReference_bank (v : ReferenceUnit) : (s.setReference v).bank = s.bank := rfl
@[simp] theorem State.setReference_compositor (v : ReferenceUnit) : (s.setReference v).compositor = s.compositor := rfl
@[simp] theorem State.setReference_queue (v : ReferenceUnit) : (s.setReference v).queue = s.queue := rfl
@[simp] theorem State.setReference_tally (v : ReferenceUnit) : (s.setReference v).tally = s.tally := rfl
@[simp] theorem State.setReference_reported (v : ReferenceUnit) : (s.setReference v).reported = s.reported := rfl
@[simp] theorem State.setReference_settled (v : ReferenceUnit) : (s.setReference v).settled = s.settled := rfl
@[simp] theorem State.setReference_memory (v : ReferenceUnit) : (s.setReference v).memory = s.memory := rfl
@[simp] theorem State.setReference_arbiter (v : ReferenceUnit) : (s.setReference v).arbiter = s.arbiter := rfl
@[simp] theorem State.setReference_reference (v : ReferenceUnit) : (s.setReference v).reference = v := rfl
@[simp] theorem State.setReference_links (v : ReferenceUnit) : (s.setReference v).links = s.links := rfl
@[simp] theorem State.setReference_setup (v : ReferenceUnit) : (s.setReference v).setup = s.setup := rfl
@[simp] theorem State.setReference_log (v : ReferenceUnit) : (s.setReference v).log = s.log := rfl
@[simp] theorem State.setReference_pending (v : ReferenceUnit) : (s.setReference v).pending = s.pending := rfl

/-! `State.setLinks`. -/

@[simp] theorem State.setLinks_ports (v : PerLink LinkPort) : (s.setLinks v).ports = s.ports := rfl
@[simp] theorem State.setLinks_bank (v : PerLink LinkPort) : (s.setLinks v).bank = s.bank := rfl
@[simp] theorem State.setLinks_compositor (v : PerLink LinkPort) : (s.setLinks v).compositor = s.compositor := rfl
@[simp] theorem State.setLinks_queue (v : PerLink LinkPort) : (s.setLinks v).queue = s.queue := rfl
@[simp] theorem State.setLinks_tally (v : PerLink LinkPort) : (s.setLinks v).tally = s.tally := rfl
@[simp] theorem State.setLinks_reported (v : PerLink LinkPort) : (s.setLinks v).reported = s.reported := rfl
@[simp] theorem State.setLinks_settled (v : PerLink LinkPort) : (s.setLinks v).settled = s.settled := rfl
@[simp] theorem State.setLinks_memory (v : PerLink LinkPort) : (s.setLinks v).memory = s.memory := rfl
@[simp] theorem State.setLinks_arbiter (v : PerLink LinkPort) : (s.setLinks v).arbiter = s.arbiter := rfl
@[simp] theorem State.setLinks_reference (v : PerLink LinkPort) : (s.setLinks v).reference = s.reference := rfl
@[simp] theorem State.setLinks_links (v : PerLink LinkPort) : (s.setLinks v).links = v := rfl
@[simp] theorem State.setLinks_setup (v : PerLink LinkPort) : (s.setLinks v).setup = s.setup := rfl
@[simp] theorem State.setLinks_log (v : PerLink LinkPort) : (s.setLinks v).log = s.log := rfl
@[simp] theorem State.setLinks_pending (v : PerLink LinkPort) : (s.setLinks v).pending = s.pending := rfl

/-! `State.setSetup`. -/

@[simp] theorem State.setSetup_ports (v : SetupUnit) : (s.setSetup v).ports = s.ports := rfl
@[simp] theorem State.setSetup_bank (v : SetupUnit) : (s.setSetup v).bank = s.bank := rfl
@[simp] theorem State.setSetup_compositor (v : SetupUnit) : (s.setSetup v).compositor = s.compositor := rfl
@[simp] theorem State.setSetup_queue (v : SetupUnit) : (s.setSetup v).queue = s.queue := rfl
@[simp] theorem State.setSetup_tally (v : SetupUnit) : (s.setSetup v).tally = s.tally := rfl
@[simp] theorem State.setSetup_reported (v : SetupUnit) : (s.setSetup v).reported = s.reported := rfl
@[simp] theorem State.setSetup_settled (v : SetupUnit) : (s.setSetup v).settled = s.settled := rfl
@[simp] theorem State.setSetup_memory (v : SetupUnit) : (s.setSetup v).memory = s.memory := rfl
@[simp] theorem State.setSetup_arbiter (v : SetupUnit) : (s.setSetup v).arbiter = s.arbiter := rfl
@[simp] theorem State.setSetup_reference (v : SetupUnit) : (s.setSetup v).reference = s.reference := rfl
@[simp] theorem State.setSetup_links (v : SetupUnit) : (s.setSetup v).links = s.links := rfl
@[simp] theorem State.setSetup_setup (v : SetupUnit) : (s.setSetup v).setup = v := rfl
@[simp] theorem State.setSetup_log (v : SetupUnit) : (s.setSetup v).log = s.log := rfl
@[simp] theorem State.setSetup_pending (v : SetupUnit) : (s.setSetup v).pending = s.pending := rfl

/-! `State.setLog`. -/

@[simp] theorem State.setLog_ports (v : RefusalLog) : (s.setLog v).ports = s.ports := rfl
@[simp] theorem State.setLog_bank (v : RefusalLog) : (s.setLog v).bank = s.bank := rfl
@[simp] theorem State.setLog_compositor (v : RefusalLog) : (s.setLog v).compositor = s.compositor := rfl
@[simp] theorem State.setLog_queue (v : RefusalLog) : (s.setLog v).queue = s.queue := rfl
@[simp] theorem State.setLog_tally (v : RefusalLog) : (s.setLog v).tally = s.tally := rfl
@[simp] theorem State.setLog_reported (v : RefusalLog) : (s.setLog v).reported = s.reported := rfl
@[simp] theorem State.setLog_settled (v : RefusalLog) : (s.setLog v).settled = s.settled := rfl
@[simp] theorem State.setLog_memory (v : RefusalLog) : (s.setLog v).memory = s.memory := rfl
@[simp] theorem State.setLog_arbiter (v : RefusalLog) : (s.setLog v).arbiter = s.arbiter := rfl
@[simp] theorem State.setLog_reference (v : RefusalLog) : (s.setLog v).reference = s.reference := rfl
@[simp] theorem State.setLog_links (v : RefusalLog) : (s.setLog v).links = s.links := rfl
@[simp] theorem State.setLog_setup (v : RefusalLog) : (s.setLog v).setup = s.setup := rfl
@[simp] theorem State.setLog_log (v : RefusalLog) : (s.setLog v).log = v := rfl
@[simp] theorem State.setLog_pending (v : RefusalLog) : (s.setLog v).pending = s.pending := rfl

/-! `State.modifyLink`. -/

@[simp] theorem State.modifyLink_ports (l : Link) (f : LinkPort → LinkPort) : (s.modifyLink l f).ports = s.ports := rfl
@[simp] theorem State.modifyLink_bank (l : Link) (f : LinkPort → LinkPort) : (s.modifyLink l f).bank = s.bank := rfl
@[simp] theorem State.modifyLink_compositor (l : Link) (f : LinkPort → LinkPort) : (s.modifyLink l f).compositor = s.compositor := rfl
@[simp] theorem State.modifyLink_queue (l : Link) (f : LinkPort → LinkPort) : (s.modifyLink l f).queue = s.queue := rfl
@[simp] theorem State.modifyLink_tally (l : Link) (f : LinkPort → LinkPort) : (s.modifyLink l f).tally = s.tally := rfl
@[simp] theorem State.modifyLink_reported (l : Link) (f : LinkPort → LinkPort) : (s.modifyLink l f).reported = s.reported := rfl
@[simp] theorem State.modifyLink_settled (l : Link) (f : LinkPort → LinkPort) : (s.modifyLink l f).settled = s.settled := rfl
@[simp] theorem State.modifyLink_memory (l : Link) (f : LinkPort → LinkPort) : (s.modifyLink l f).memory = s.memory := rfl
@[simp] theorem State.modifyLink_arbiter (l : Link) (f : LinkPort → LinkPort) : (s.modifyLink l f).arbiter = s.arbiter := rfl
@[simp] theorem State.modifyLink_reference (l : Link) (f : LinkPort → LinkPort) : (s.modifyLink l f).reference = s.reference := rfl
@[simp] theorem State.modifyLink_links (l : Link) (f : LinkPort → LinkPort) : (s.modifyLink l f).links = s.links.modify l f := rfl
@[simp] theorem State.modifyLink_setup (l : Link) (f : LinkPort → LinkPort) : (s.modifyLink l f).setup = s.setup := rfl
@[simp] theorem State.modifyLink_log (l : Link) (f : LinkPort → LinkPort) : (s.modifyLink l f).log = s.log := rfl
@[simp] theorem State.modifyLink_pending (l : Link) (f : LinkPort → LinkPort) : (s.modifyLink l f).pending = s.pending := rfl

/-! `State.setHoldings`. -/

@[simp] theorem State.setHoldings_ports (h : PerGroup Holding) : (s.setHoldings h).ports = s.ports := rfl
@[simp] theorem State.setHoldings_bank (h : PerGroup Holding) : (s.setHoldings h).bank = s.bank := rfl
@[simp] theorem State.setHoldings_compositor (h : PerGroup Holding) : (s.setHoldings h).compositor = s.compositor := rfl
@[simp] theorem State.setHoldings_queue (h : PerGroup Holding) : (s.setHoldings h).queue = s.queue := rfl
@[simp] theorem State.setHoldings_tally (h : PerGroup Holding) : (s.setHoldings h).tally = s.tally := rfl
@[simp] theorem State.setHoldings_reported (h : PerGroup Holding) : (s.setHoldings h).reported = s.reported := rfl
@[simp] theorem State.setHoldings_settled (h : PerGroup Holding) : (s.setHoldings h).settled = s.settled := rfl
@[simp] theorem State.setHoldings_memory (h : PerGroup Holding) : (s.setHoldings h).memory = s.memory := rfl
@[simp] theorem State.setHoldings_arbiter (h : PerGroup Holding) : (s.setHoldings h).arbiter = { s.arbiter with holdings := h } := rfl
@[simp] theorem State.setHoldings_reference (h : PerGroup Holding) : (s.setHoldings h).reference = s.reference := rfl
@[simp] theorem State.setHoldings_links (h : PerGroup Holding) : (s.setHoldings h).links = s.links := rfl
@[simp] theorem State.setHoldings_setup (h : PerGroup Holding) : (s.setHoldings h).setup = s.setup := rfl
@[simp] theorem State.setHoldings_log (h : PerGroup Holding) : (s.setHoldings h).log = s.log := rfl
@[simp] theorem State.setHoldings_pending (h : PerGroup Holding) : (s.setHoldings h).pending = s.pending := rfl

/-! `State.setFader`. -/

@[simp] theorem State.setFader_ports (f : Fader) : (s.setFader f).ports = s.ports := rfl
@[simp] theorem State.setFader_bank (f : Fader) : (s.setFader f).bank = { s.bank with fader := f } := rfl
@[simp] theorem State.setFader_compositor (f : Fader) : (s.setFader f).compositor = s.compositor := rfl
@[simp] theorem State.setFader_queue (f : Fader) : (s.setFader f).queue = s.queue := rfl
@[simp] theorem State.setFader_tally (f : Fader) : (s.setFader f).tally = s.tally := rfl
@[simp] theorem State.setFader_reported (f : Fader) : (s.setFader f).reported = s.reported := rfl
@[simp] theorem State.setFader_settled (f : Fader) : (s.setFader f).settled = s.settled := rfl
@[simp] theorem State.setFader_memory (f : Fader) : (s.setFader f).memory = s.memory := rfl
@[simp] theorem State.setFader_arbiter (f : Fader) : (s.setFader f).arbiter = s.arbiter := rfl
@[simp] theorem State.setFader_reference (f : Fader) : (s.setFader f).reference = s.reference := rfl
@[simp] theorem State.setFader_links (f : Fader) : (s.setFader f).links = s.links := rfl
@[simp] theorem State.setFader_setup (f : Fader) : (s.setFader f).setup = s.setup := rfl
@[simp] theorem State.setFader_log (f : Fader) : (s.setFader f).log = s.log := rfl
@[simp] theorem State.setFader_pending (f : Fader) : (s.setFader f).pending = s.pending := rfl

end Sys2Proof.Machine
end

