-- ==== Sys2Proof/Laws/Ops.lean ====
section
/-! SUPPORT. What each shared operation can do, said once. -/

namespace Sys2Proof.Machine

variable (s : State) (l : Link)

/-! Ports of links. -/

theorem State.modifyLink_modifyLink (f g : LinkPort → LinkPort) :
    (s.modifyLink l f).modifyLink l g = s.modifyLink l fun p => g (f p) := by
  simp [State.modifyLink, State.setLinks, PerLink.modify_eq_set]

theorem State.heard_eq : s.heard l = s.modifyLink l LinkPort.goodFrame := rfl

theorem State.reserved_eq : s.reserved l = s.modifyLink l LinkPort.reserve := rfl

/-- A reply posted into a slot just reserved leaves the reserved slots as they were. -/
theorem State.answer_reserved (tag : Byte) (k : Kind) (data : List Byte) :
    (s.reserved l).answer l tag k data = s.said l (.done tag k.code data) := by
  simp [State.reserved_eq, State.answer, State.modifyLink_modifyLink, LinkPort.reserve, LinkPort.reply]
  rfl

theorem State.refuse_reserved (tag kind : Byte) (reason : Reason) (g : Option Group) :
    (s.reserved l).refuse l tag kind reason g = s.refused l tag kind reason g := by
  simp [State.reserved_eq, State.refuse, State.modifyLink_modifyLink, LinkPort.reserve, LinkPort.reply]
  rfl

/-- A link that serves takes a request to its checks with a reply slot reserved. -/
theorem State.onGoodFrame_serves {s : State} {l : Link} (h : s.Serves l) (handle : State → State) :
    s.onGoodFrame l (fun s => s.withReplySlot l handle) = handle ((s.heard l).reserved l) := by
  obtain ⟨hp, he, hs⟩ := h
  have hf : (s.links.get l).goodFrame.slotsFull = false :=
    decide_eq_false (Nat.not_le.mpr hs)
  simp [State.onGoodFrame, hp, he, Phase.isRunning, State.withReplySlot, hf, State.reserved_eq, State.heard_eq]

/-- The same for a request that takes no slot of its own. -/
theorem State.onGoodFrame_running {s : State} {l : Link} (hp : s.setup.phase = .running) (he : s.enabled l = true)
    (handle : State → State) : s.onGoodFrame l handle = handle (s.heard l) := by
  simp [State.onGoodFrame, hp, he, Phase.isRunning, State.heard_eq]

/-! Arrival. -/

/-- Setting a mark changes the holdings table as `marked` says. -/
theorem State.touch_eq (g : Group) : s.touch l g = s.worked l g := by
  simp only [State.touch, State.worked, marked]
  cases hg : s.arbiter.holdings.get g with
  | free => simp [Holding.acquiredBy]
  | static h => simp [Holding.acquiredBy]
  | acquired h m =>
    by_cases hl : h = l
    · subst hl
      cases m
      · simp [Holding.acquiredBy]; rfl
      · simp only [Holding.acquiredBy, BEq.rfl, if_true]
        rw [PerGroup.set_eq_self _ _ _ hg]
        simp [State.setHoldings, State.setArbiter]
    · simp [Holding.acquiredBy, hl]

/-- A link that may use a group passes the barred and the holder check. -/
theorem State.groupRefusal_none {s : State} {l : Link} {g : Group} (h : s.MayUse l g) : s.groupRefusal l g = none := by
  obtain ⟨hb, hh⟩ := h
  simp only [State.groupRefusal, hb, Bool.false_eq_true, if_false]
  rcases hh with h | h <;> simp [h]

theorem State.groupRefusal_barred {s : State} {l : Link} {g : Group} (h : s.barredFrom l g = true) :
    s.groupRefusal l g = some .barred := by simp [State.groupRefusal, h]

theorem State.groupRefusal_holder {s : State} {l h : Link} {g : Group} (hb : s.barredFrom l g = false)
    (hh : s.holder g = some h) (hn : h ≠ l) : s.groupRefusal l g = some .notHolder := by
  simp [State.groupRefusal, hb, hh, hn]

/-- A request that the checks let in is admitted. -/
theorem State.admit_reserved {s : State} {l : Link} {a : Action} (tag : Byte) (h : s.Admits l a) :
    ((s.heard l).reserved l).admission l tag a = s.admitted l tag a := by
  have hr : ((s.heard l).reserved l).entryRefusal l a.group = none := by
    cases hg : a.group with
    | none => rfl
    | some g => exact State.groupRefusal_none (s := (s.heard l).reserved l) (h.2.1 g hg)
  have hq : ¬ Config.queueCapacity ≤ ((s.heard l).reserved l).queue.length := Nat.not_le.mpr h.2.2.1
  have hk : (a.lockable && ((s.heard l).reserved l).setup.lock) = false := by
    have := h.2.2.2
    show (a.lockable && s.setup.lock) = false
    cases ha : a.lockable <;> simp_all
  simp only [State.admission, hr, hq, hk, if_false, Bool.false_eq_true]
  cases hg : a.group with
  | none => simp [State.admitted, hg, State.touchEntry]; rfl
  | some g => simp [State.admitted, hg, State.touchEntry, State.touch_eq]; rfl

/-- A served request of the right length reaches its values. -/
theorem State.onGoodFrame_immediate {α : Type} {s : State} {l : Link} {tag : Byte} {k : Kind} {ps : List Byte} {g : Option Group}
    {read : List Byte → Option α} {valid : α → State → Bool} {run : α → State → State} {a : α}
    (h : s.Serves l) (hl : ps.length + 2 = k.bodyLength) (hr : read ps = some a)
    (hv : valid a ((s.heard l).reserved l) = true) :
    s.onGoodFrame l (fun s => s.immediate k l tag ps g read valid run) = run a ((s.heard l).reserved l) := by
  simp only [State.immediate]
  rw [State.onGoodFrame_serves h]
  simp [State.checked, hl, hr, hv]

/-- A served request whose values are refused. -/
theorem State.onGoodFrame_badValue {α : Type} {s : State} {l : Link} {tag : Byte} {k : Kind} {ps : List Byte} {g : Option Group}
    {read : List Byte → Option α} {valid : α → State → Bool} {run : α → State → State}
    (h : s.Serves l) (hl : ps.length + 2 = k.bodyLength)
    (hr : ∀ a, read ps = some a → valid a ((s.heard l).reserved l) = false) :
    s.onGoodFrame l (fun s => s.immediate k l tag ps g read valid run) = (s.heard l).refused l tag k.code .badValue g := by
  simp only [State.immediate]
  rw [State.onGoodFrame_serves h, ← State.refuse_reserved]
  cases hp : read ps with
  | none => simp [State.checked, hl, hp]
  | some a => simp [State.checked, hl, hp, hr a hp]

/-- A queued request is an immediate one whose carrying out is its admission. -/
theorem State.queued_eq (k : Kind) (tag : Byte) (ps : List Byte) (g : Option Group) (read : List Byte → Option Action) :
    s.queued k l tag ps g read = s.immediate k l tag ps g read anyValue fun a s => s.admission l tag a := rfl

/-- A queued request that passes every check is admitted. -/
theorem State.queued_admitted {s : State} {l : Link} {tag : Byte} {k : Kind} {ps : List Byte} {g : Option Group}
    {read : List Byte → Option Action} {a : Action} (h : s.Admits l a) (hl : ps.length + 2 = k.bodyLength) (hr : read ps = some a) :
    s.onGoodFrame l (fun s => s.queued k l tag ps g read) = s.admitted l tag a := by
  simp only [State.queued_eq]
  rw [State.onGoodFrame_immediate h.1 hl hr rfl, State.admit_reserved tag h]

/-! Immediate requests of a group, and reports. -/

/-- A served immediate request of a group whose checks pass is carried out at once, its mark set and its answer posted. -/
theorem State.onGoodFrame_immediateGroup {α : Type} {s : State} {l : Link} {tag : Byte} {k : Kind} {ps : List Byte} {g : Group}
    {lockable : Bool} {read : List Byte → Option α} {valid : α → State → Bool} {run : α → State → State}
    {data : α → State → List Byte} {a : α} (h : s.Serves l) (hm : s.MayUse l g)
    (hk : lockable = true → s.setup.lock = false) (hl : ps.length + 2 = k.bodyLength) (hr : read ps = some a)
    (hv : valid a ((s.heard l).reserved l) = true) :
    s.onGoodFrame l (fun s => s.immediateGroup k l tag ps g lockable read valid run data) =
      ((run a ((s.heard l).reserved l)).worked l g).answer l tag k (data a ((s.heard l).reserved l)) := by
  have hg := State.groupRefusal_none (s := (s.heard l).reserved l) (l := l) (g := g) hm
  have hc : (lockable && ((s.heard l).reserved l).setup.lock) = false := by
    show (lockable && s.setup.lock) = false
    cases lockable <;> simp_all
  simp only [State.immediateGroup]
  rw [State.onGoodFrame_immediate h hl hr hv]
  simp [State.groupChecked, hg, hc, State.touch_eq]

/-- A report and the reservation of a reply slot do not meet. -/
theorem State.postReport_reserved (m : Message) : (s.reserved l).postReport m = (s.postReport m).reserved l := by
  simp only [State.postReport, State.postWhere]
  have hs : (s.reserved l).setup = s.setup := rfl
  have ht : ∀ j, (s.reserved l).takesReports j = s.takesReports j := fun _ => rfl
  have hq : ∀ (q : PerLink LinkPort) (j : Link), ({ s with links := q } : State).takesReports j = s.takesReports j :=
    fun _ _ => rfl
  rw [hs]
  split
  · simp only [State.reserved, State.setLinks]
    congr 1
    apply PerLink.ext_get; intro j
    simp only [PerLink.get_ofFn, PerLink.get_set]
    by_cases hj : j = l
    · subst hj; simp [hq, LinkPort.report]; split <;> rfl
    · simp [hj, hq]
  · rfl

/-! What comes from several links in ascending link number. -/

/-- Every frame of a list stands in its ascending order, and no other. -/
theorem mem_byLink {α : Type} (link : α → Link) (frames : List α) (f : α) : f ∈ byLink link frames ↔ f ∈ frames := by
  cases h : link f <;> simp [byLink, Link.all, h]

/-- A choice of links made in the ascending order. -/
theorem filter_byLink {α : Type} (link : α → Link) (frames : List α) (p : Link → Bool) :
    (byLink link frames).filter (fun f => p (link f)) =
      (Link.all.filter p).flatMap fun l => frames.filter fun f => link f == l := by
  have h : ∀ l, (frames.filter fun f => link f == l).filter (fun f => p (link f)) =
      if p l then frames.filter fun f => link f == l else [] := by
    intro l
    rw [List.filter_filter]
    split <;> rename_i hp
    · exact List.filter_congr fun f _ => by by_cases hl : link f = l <;> simp [hl, hp]
    · rw [List.filter_eq_nil_iff]
      intro f _
      by_cases hl : link f = l <;> simp [hl, hp]
  simp only [byLink, List.filter_flatMap, h]
  induction Link.all with
  | nil => rfl
  | cons l rest ih => cases hp : p l <;> simp [hp, ih]

/-- The order does not depend on how frames of different links are listed. -/
theorem byLink_perm {α : Type} (link : α → Link) {frames others : List α} (h : frames.Perm others)
    (distinct : (frames.map link).Nodup) : byLink link frames = byLink link others := by
  refine List.flatMap_congr fun l _ => ?_
  have short : ∀ fs : List α, (fs.map link).Nodup → (fs.filter fun f => link f == l).length ≤ 1 := by
    intro fs hd
    rw [← List.countP_eq_length_filter, ← Function.comp_def (fun x => x == l) link, ← List.countP_map]
    exact List.nodup_iff_count_le_one.1 hd l
  have hp := h.filter fun f => link f == l
  have := short frames distinct
  match hf : frames.filter (fun f => link f == l) with
  | [] => rw [hf] at hp; exact hp.nil_eq
  | [a] => rw [hf] at hp; exact List.singleton_perm.1 hp
  | a :: b :: rest => rw [hf] at this; simp at this

/-- A list in ascending link number is its own order. -/
theorem byLink_ascending {α : Type} (link : α → Link) (frames : List α)
    (h : frames.Pairwise fun f g => (Link.code (link f)).toNat < (Link.code (link g)).toNat) : byLink link frames = frames := by
  induction frames with
  | nil => rfl
  | cons f rest ih =>
    rw [List.pairwise_cons] at h
    conv_rhs => rw [← ih h.2]
    have above : ∀ l, (Link.code l).toNat ≤ (Link.code (link f)).toNat → rest.filter (fun g => link g == l) = [] := by
      intro l hl
      rw [List.filter_eq_nil_iff]
      intro g hg he
      have := h.1 g hg
      simp only [beq_iff_eq] at he
      subst he
      omega
    cases hf : link f <;> rw [hf] at above <;>
      simp only [byLink, Link.all, List.flatMap_cons, List.flatMap_nil, List.filter_cons, hf, beq_self_eq_true, if_true] <;>
      first
        | rw [above .L1 (by decide), above .L2 (by decide), above .L3 (by decide), above .L4 (by decide)]; rfl
        | rw [above .L1 (by decide), above .L2 (by decide), above .L3 (by decide)]; rfl
        | rw [above .L1 (by decide), above .L2 (by decide)]; rfl
        | rw [above .L1 (by decide)]; rfl

end Sys2Proof.Machine
end

