-- ==== Sys2Proof/Laws/Arrivals.lean ====
section
/-! SUPPORT. Queued requests: alone, and those of several links that reach the queue together. -/

namespace Sys2Proof.Machine

/-- A request that comes alone is taken as any good frame is. -/
theorem State.arrive_alone (s : State) (l : Link) (ps : List Byte) (take : State → State) :
    s.arrive l ⟨ps, []⟩ take = s.onGoodFrame l take := by
  cases l <;> rfl

/-- A request taken among others stands in its place of the ascending order. -/
theorem State.amid_eq (s : State) (f : RequestFrame) (others : List RequestFrame) (h : ∀ g ∈ others, g.link ≠ f.link) :
    s.amid f.link others (fun u => u.hearFrame f) = (byLink RequestFrame.link (f :: others)).foldl State.hearFrame s := by
  have none : others.filter (fun g => g.link == f.link) = [] := by
    rw [List.filter_eq_nil_iff]
    intro g hg
    simpa using h g hg
  have low := filter_byLink RequestFrame.link others fun l => decide ((Link.code l).toNat < (Link.code f.link).toNat)
  have high := filter_byLink RequestFrame.link others fun l => !decide ((Link.code l).toNat < (Link.code f.link).toNat)
  simp only [State.amid]
  rw [low, high]
  cases hf : f.link <;> rw [hf] at none <;>
    simp [byLink, Link.all, hf, none, List.filter, Link.code, List.foldl_append] <;> rfl

/-- The command of a queued request with those that reach the queue together with it: all in ascending link number (R87). -/
theorem exec_together (k : Kind) (hk : k.isQueued = true) (l : Link) (tag : Byte) (ps : List Byte) (others : List RequestFrame)
    (s : State) (h : ∀ g ∈ others, g.link ≠ l) :
    exec (k.requestWith l tag ps others) s =
      .next ((byLink RequestFrame.link (⟨l, k.code, tag, ps⟩ :: others)).foldl State.hearFrame s) := by
  have e := State.amid_eq s ⟨l, k.code, tag, ps⟩ others h
  simp only [State.hearFrame, ofCode_code, hk, if_true] at e
  rw [← e]
  cases k <;> first | rfl | exact absurd hk (by decide)

/-- One frame of those that come together does what its request does alone. -/
theorem exec_hearFrame (k : Kind) (hk : k.isQueued = true) (l : Link) (tag : Byte) (ps : List Byte) (s : State) :
    exec (k.request l tag ps) s = .next (s.hearFrame ⟨l, k.code, tag, ps⟩) := by
  rw [Kind.request, exec_together k hk l tag ps [] s (fun _ h => nomatch h),
    byLink_ascending RequestFrame.link _ (List.pairwise_singleton _ _)]
  rfl

/-- However they are listed, the requests of different links that come together do the same. -/
theorem exec_together_ascending (frames : List RequestFrame) (s : State)
    (up : frames.Pairwise fun f g => (Link.code f.link).toNat < (Link.code g.link).toNat)
    (k : Kind) (hk : k.isQueued = true) (l : Link) (tag : Byte) (ps : List Byte) (others : List RequestFrame)
    (h : (⟨l, k.code, tag, ps⟩ :: others).Perm frames) :
    exec (k.requestWith l tag ps others) s = .next (frames.foldl State.hearFrame s) := by
  have distinct : (frames.map RequestFrame.link).Nodup := by
    rw [List.nodup_iff_pairwise_ne, List.pairwise_map]
    exact up.imp fun hlt he => by rw [he] at hlt; exact absurd hlt (lt_irrefl _)
  have d := ((h.map RequestFrame.link).nodup_iff).2 distinct
  rw [exec_together k hk l tag ps others s, byLink_perm RequestFrame.link h d, byLink_ascending RequestFrame.link _ up]
  intro g hg he
  rw [List.map_cons, List.nodup_cons] at d
  exact d.1 (List.mem_map.2 ⟨g, hg, he⟩)

end Sys2Proof.Machine
end

