-- ==== Sys2Proof/Laws/Holdings.lean ====
section
/-! SUPPORT. What a withdrawal and a move of the holdings table can do, said once. -/

namespace Sys2Proof.Machine

/-- The log once a row of entries has been answered WITHDRAWN at a frame count. -/
def withdrawnLog (g : RefusalLog) (f : FrameCount) (es : List Entry) : RefusalLog :=
  es.foldl (fun g e => g.note ⟨e.link, e.action.kind.code, .withdrawn, e.group, f, 1⟩) g

/-- The port of a link once its entries of a row have been answered WITHDRAWN. -/
def LinkPort.withdrawn (p : LinkPort) (l : Link) (es : List Entry) : LinkPort :=
  let mine := es.filter fun e => e.link == l
  { p with
    reserved := p.reserved - mine.length
    transmit := p.transmit ++ mine.map fun e => .refused e.tag e.action.kind.code .withdrawn }

theorem State.refuseEntries (es : List Entry) : ∀ s : State,
    let t := es.foldl (fun s e => s.refuseEntry e .withdrawn) s
    t = { s with links := t.links, log := withdrawnLog s.log s.reference.frameCount es } ∧
    ∀ l, t.links.get l = (s.links.get l).withdrawn l es := by
  induction es with
  | nil => intro s; simp [withdrawnLog, LinkPort.withdrawn]
  | cons e es ih =>
    intro s
    obtain ⟨h, hl⟩ := ih (s.refuseEntry e .withdrawn)
    simp only [List.foldl] at *
    refine ⟨?_, fun l => ?_⟩
    · rw [h]; rfl
    · rw [hl]
      by_cases he : e.link = l
      · subst he
        simp [State.refuseEntry, State.refuse, State.modifyLink, State.setLinks, State.setLog, PerLink.modify_eq_set,
          LinkPort.reply, LinkPort.withdrawn]
        omega
      · have : ¬ l = e.link := fun h => he h.symm
        simp [State.refuseEntry, State.refuse, State.modifyLink, State.setLinks, State.setLog, PerLink.modify_eq_set,
          PerLink.get_set, this, he, LinkPort.withdrawn]

/-- A withdrawal takes the entries concerned out of the queue and answers them; the rest stay as they stood. -/
theorem State.withdraw_eq (s : State) (gone : Entry → Bool) :
    let t := s.withdraw gone
    t = { s with
      queue := s.queue.filter fun e => !gone e
      links := t.links
      log := withdrawnLog s.log s.reference.frameCount (s.queue.filter gone) } ∧
    ∀ l, t.links.get l = (s.links.get l).withdrawn l (s.queue.filter gone) :=
  State.refuseEntries (s.queue.filter gone) (s.setQueue (s.queue.filter fun e => !gone e))

/-- A move of the holdings table: the withdrawals it brings, and the fader forgotten where the holder of TRANS changed. -/
theorem State.moveHoldings_eq (s : State) (new : PerGroup Holding) (also : Entry → Bool) :
    let t := s.moveHoldings new also
    let gone := fun e => also e || displaced s.arbiter.holdings new e
    t = { s with
      bank := if s.holder .trans = (new.get .trans).holder then s.bank
        else { s.bank with fader := s.bank.fader.forget }
      arbiter := { s.arbiter with holdings := new }
      queue := s.queue.filter fun e => !gone e
      links := t.links
      log := withdrawnLog s.log s.reference.frameCount (s.queue.filter gone) } ∧
    ∀ l, t.links.get l = (s.links.get l).withdrawn l (s.queue.filter gone) := by
  intro t gone
  obtain ⟨h, hl⟩ := (s.setHoldings new).withdraw_eq gone
  have ht : t = if s.holder .trans = (new.get .trans).holder then (s.setHoldings new).withdraw gone
      else ((s.setHoldings new).withdraw gone).setFader ((s.setHoldings new).withdraw gone).bank.fader.forget := rfl
  split_ifs at ht ⊢ with hh
  · rw [ht]; exact ⟨h, hl⟩
  · rw [ht]; refine ⟨?_, hl⟩
    rw [h]; rfl

/-- A CLAIM that comes alone posts its report at its own change of the table. -/
theorem execClaim_alone (l : Link) (tag : Byte) (ps : List Byte) (s : State) :
    execClaim l tag ⟨ps, []⟩ s = .next (s.onGoodFrame l fun s => s.takeClaim State.changeHoldings l tag ps) := rfl

/-- CLAIMs of two links that come together are taken the lower link first, whichever is listed first, with one report after both. -/
theorem execClaim_pair (f g : ClaimFrame) (s : State) (h : (Link.code f.link).toNat < (Link.code g.link).toNat) :
    let both := ((s.hearClaim State.replaceHoldings f).hearClaim State.replaceHoldings g).reportHoldings s.arbiter.holdings
      s.reference.frameCount
    execClaim f.link f.tag ⟨f.bytes, [g]⟩ s = .next both ∧ execClaim g.link g.tag ⟨g.bytes, [f]⟩ s = .next both := by
  rcases f with ⟨l, tag, ps⟩
  rcases g with ⟨m, tag', ps'⟩
  change (Link.code l).toNat < (Link.code m).toNat at h
  cases l <;> cases m <;> first | exact ⟨rfl, rfl⟩ | exact absurd h (by decide)

end Sys2Proof.Machine
end

