-- ==== Sys2Proof/Laws/Boundary.lean ====
section
/-! SUPPORT. What the application of an entry never changes, and the queue taken entry by entry. -/

namespace Sys2Proof.Machine

/-- Everything that no application of an entry changes; the queue may only lose entries. -/
structure State.Kept (s t : State) : Prop where
  memory : t.memory = s.memory
  attributes : t.arbiter.attributes = s.arbiter.attributes
  walk : t.arbiter.walk = s.arbiter.walk
  refresh : t.arbiter.refresh = s.arbiter.refresh
  sweepPeriod : t.arbiter.sweepPeriod = s.arbiter.sweepPeriod
  sweepCounter : t.arbiter.sweepCounter = s.arbiter.sweepCounter
  sweepMark : t.arbiter.sweepMark = s.arbiter.sweepMark
  setup : t.setup = s.setup
  blackout : t.compositor.blackout = s.compositor.blackout
  tally : t.tally = s.tally
  reported : t.reported = s.reported
  settled : t.settled = s.settled
  lost : t.ports.lost = s.ports.lost
  frameCount : t.reference.frameCount = s.reference.frameCount
  lastBoundary : t.reference.lastBoundary = s.reference.lastBoundary
  pending : t.pending = s.pending
  shorter : t.queue.length ≤ s.queue.length
  entries : ∀ e ∈ t.queue, e ∈ s.queue

namespace State.Kept

theorem refl (s : State) : s.Kept s :=
  ⟨rfl, rfl, rfl, rfl, rfl, rfl, rfl, rfl, rfl, rfl, rfl, rfl, rfl, rfl, rfl, rfl, le_rfl, fun _ h => h⟩

theorem trans {s t u : State} (a : s.Kept t) (b : t.Kept u) : s.Kept u :=
  ⟨b.memory.trans a.memory, b.attributes.trans a.attributes, b.walk.trans a.walk, b.refresh.trans a.refresh,
   b.sweepPeriod.trans a.sweepPeriod, b.sweepCounter.trans a.sweepCounter, b.sweepMark.trans a.sweepMark,
   b.setup.trans a.setup, b.blackout.trans a.blackout, b.tally.trans a.tally, b.reported.trans a.reported,
   b.settled.trans a.settled,
   b.lost.trans a.lost, b.frameCount.trans a.frameCount, b.lastBoundary.trans a.lastBoundary, b.pending.trans a.pending,
   b.shorter.trans a.shorter, fun e h => a.entries e (b.entries e h)⟩

end State.Kept

variable (s : State)

/-- The updates that answering, posting and setting the bank or the output range come down to. -/
theorem State.kept_update (b : Bank) (r : OutputRange) (links : PerLink LinkPort) (log : RefusalLog) :
    s.Kept { s with bank := b, compositor := { s.compositor with range := r }, links := links, log := log } :=
  ⟨rfl, rfl, rfl, rfl, rfl, rfl, rfl, rfl, rfl, rfl, rfl, rfl, rfl, rfl, rfl, rfl, le_rfl, fun _ h => h⟩

theorem State.kept_postWhere (want : Link → Bool) (m : Message) : s.Kept (s.postWhere want m) := by
  unfold State.postWhere
  split
  · exact s.kept_update _ _ _ _
  · exact State.Kept.refl s

theorem State.kept_moveHoldings (new : PerGroup Holding) (also : Entry → Bool) : s.Kept (s.moveHoldings new also) := by
  obtain ⟨h, -⟩ := s.moveHoldings_eq new also
  rw [h]
  exact ⟨rfl, rfl, rfl, rfl, rfl, rfl, rfl, rfl, rfl, rfl, rfl, rfl, rfl, rfl, rfl, rfl, List.length_filter_le _ _,
    fun e he => List.mem_of_mem_filter he⟩

theorem State.kept_changeHoldings (new : PerGroup Holding) : s.Kept (s.changeHoldings new) := by
  refine (s.kept_moveHoldings new noEntry).trans ?_
  unfold State.changeHoldings State.reportHoldings
  split
  · exact State.Kept.refl _
  · exact State.kept_postWhere _ _ _

theorem State.kept_changeFormat (f : Format) (signals : PerInput InputSignal) : s.Kept (s.changeFormat f signals) := by
  unfold State.changeFormat State.updateReference
  dsimp only
  split
  · exact ⟨rfl, rfl, rfl, rfl, rfl, rfl, rfl, rfl, rfl, rfl, rfl, rfl, rfl, rfl, rfl, rfl, le_rfl, fun _ h => h⟩
  · refine State.Kept.trans ?_ (State.kept_postWhere _ _ _)
    exact ⟨rfl, rfl, rfl, rfl, rfl, rfl, rfl, rfl, rfl, rfl, rfl, rfl, rfl, rfl, rfl, rfl, le_rfl, fun _ h => h⟩

/-- The application of an entry, whatever its kind. -/
theorem State.kept_applyEntry (signals : PerInput InputSignal) (e : Entry) : s.Kept (s.applyEntry signals e) := by
  unfold State.applyEntry
  split
  case _ => unfold State.applySelect; split <;> exact s.kept_update _ _ _ _
  case _ => exact s.kept_update _ _ _ _
  case _ => unfold State.applyNextSet; split <;> exact s.kept_update _ _ _ _
  case _ => unfold State.applyTransitionSetup; split <;> exact s.kept_update _ _ _ _
  case _ => unfold State.applyFaderSetup; split <;> exact s.kept_update _ _ _ _
  case _ => unfold State.applyAuto; split <;> exact s.kept_update _ _ _ _
  case _ => exact s.kept_update _ _ _ _
  case _ => unfold State.applyKeyOrder; split <;> exact s.kept_update _ _ _ _
  case _ => exact s.kept_update _ _ _ _
  case _ => exact s.kept_update _ _ _ _
  case _ => exact s.kept_update _ _ _ _
  case _ => unfold State.applyKeyCut; split <;> exact s.kept_update _ _ _ _
  case _ => unfold State.applyRecall; dsimp only; split_ifs <;> exact s.kept_update _ _ _ _
  case _ =>
    unfold State.applyRelease State.carryOutRelease
    dsimp only
    split
    · exact s.kept_update _ _ _ _
    · exact (s.kept_changeHoldings _).trans (State.kept_update _ _ _ _ _)
  case _ =>
    unfold State.applySetFormat
    split_ifs
    · exact s.kept_update _ _ _ _
    · exact s.kept_update _ _ _ _
    · exact (s.kept_changeFormat _ _).trans (State.kept_update _ _ _ _ _)
  case _ => exact s.kept_update _ _ _ _

theorem State.applyRounds_nil (signals : PerInput InputSignal) (n : Nat) (h : s.queue = []) :
    State.applyRounds signals n s = s := by
  cases n with
  | zero => rfl
  | succ n => simp [State.applyRounds, h]

/-- Any number of rounds not below the length of the queue takes it whole. -/
theorem State.applyRounds_enough (signals : PerInput InputSignal) : ∀ (n m : Nat) (s : State),
    s.queue.length ≤ n → s.queue.length ≤ m → State.applyRounds signals n s = State.applyRounds signals m s := by
  intro n
  induction n with
  | zero =>
    intro m s h _
    rw [s.applyRounds_nil signals m (List.length_eq_zero_iff.1 (Nat.le_zero.1 h))]
    rfl
  | succ n ih =>
    intro m s hn hm
    cases hq : s.queue with
    | nil => rw [s.applyRounds_nil _ _ hq, s.applyRounds_nil _ _ hq]
    | cons e rest =>
      cases m with
      | zero => simp [hq] at hm
      | succ m =>
        have hs : ((s.setQueue rest).applyEntry signals e).queue.length ≤ rest.length :=
          ((s.setQueue rest).kept_applyEntry signals e).shorter
        rw [hq, List.length_cons] at hn hm
        simp only [State.applyRounds, hq]
        exact ih _ _ (by omega) (by omega)

end Sys2Proof.Machine
end

