-- ==== Sys2Proof/Tests/Slice0.lean ====
section
/-! SUPPORT. Tests, most of them figures that the spec works out, and for every statement with hypotheses a state and operands that
meet them together, clause by clause. -/

namespace Sys2Proof.Tests

open Sys2Proof.Machine

/-! Small states. -/

/-- The part in its cold state once initialisation has ended. -/
def up : State :=
  { State.reset with
    setup := { State.reset.setup with phase := .running }
    compositor := { range := .wide, blackout := false } }

def withBank (b : Bank) : State := { up with bank := b }

def holding (g : Group) (h : Holding) : State :=
  { up with arbiter := { up.arbiter with holdings := up.arbiter.holdings.set g h } }

/-- L1 barred from a group. -/
def barring (g : Group) : State :=
  { up with arbiter := { up.arbiter with
      attributes := up.arbiter.attributes.set .L1 { coldAttributes with barred := (PerGroup.const false).set g true } } }

def queued (es : List Entry) : State := { up with queue := es }

def cutBy (l : Link) : Entry := { link := l, tag := 5, action := .cut }

/-- A queue with no room left. -/
def crowded : State := queued (List.replicate 16 (cutBy .L2))

def lockedUp : State := { up with setup := { up.setup with lock := true } }

def portOf (p : LinkPort) : State := { up with links := up.links.set .L1 p }

/-- Every reply slot of L1 occupied. -/
def slotless : State := portOf { freshPort with transmit := List.replicate 12 (.done 0 1 []) }

def auto25 (n : Nat) : Bank := { coldBank with state := .runAuto, count := n, position := n * 1024 / 25 }

def manual (p : Nat) : Bank :=
  { coldBank with
    state := .runManual, position := p
    fader := { coldFader with reading := 1500, valid := true, filtered := 1500, live := true, previous := p } }

def goodSignal : InputSignal :=
  { locked := true, startSeen := true, width := 1920, height := 1080, rateNum := 50, rateDen := 1, offset := 0 }

def signals : PerInput InputSignal := .const goodSignal

/-- The next state of a step of one command. -/
def after (c : Instr) (s : State) : Option State :=
  match step { s with pending := [c] } with
  | .next t => some t
  | .fault _ => none
  | .refused _ => none

/-- The message last posted on L1. -/
def lastReply (c : Instr) (s : State) : Option Message := (after c s).bind fun t => t.links.l1.transmit.getLast?

theorem up_serves (l : Link) : up.Serves l := by cases l <;> exact ⟨rfl, rfl, by decide⟩

theorem free_mayUse (l : Link) (g : Group) : up.MayUse l g := by
  cases l <;> cases g <;> exact ⟨rfl, .inl rfl⟩

theorem free_admits (l : Link) (a : Action) : up.Admits l a :=
  ⟨up_serves l, fun g _ => free_mayUse l g, by decide, fun _ => rfl⟩

theorem cold_lawful : coldBank.Lawful .F0 where
  matte := by unfold Matte.InRange; decide
  settings := fun k => by cases k <;> (unfold KeySettings.InRange; decide)
  masks := fun k => by cases k <;> (unfold KeySettings.InPicture; decide)
  stack := List.Perm.refl _
  setup := by unfold TransitionSetup.InRange; decide
  nextSet := .inl rfl
  position := ⟨rfl, rfl⟩
  fader := by unfold Fader.InRange FaderSettingsInRange; decide

/-! The checks of WellFormed each refuse a term. -/

def longParams : List Byte := List.replicate 59 0

theorem test_ill_formed_params : WellFormed (.matte .L1 0 ⟨longParams, []⟩) = false := by decide
theorem test_ill_formed_fader : WellFormed (.fader .L1 0 longParams) = false := by decide
/-- A body too long, a link named twice, and a kind that waits in no queue, among requests that come together. -/
theorem test_ill_formed_arrivals : WellFormed (.cut .L1 0 ⟨[], [⟨.L2, 0x01, 0, longParams⟩]⟩) = false ∧
    WellFormed (.cut .L1 0 ⟨[], [⟨.L1, 0x0C, 0, []⟩]⟩) = false ∧ WellFormed (.cut .L1 0 ⟨[], [⟨.L2, 0x0D, 0, [0, 0]⟩]⟩) = false ∧
    WellFormed (.cut .L3 0 ⟨[], [⟨.L2, 0x0C, 0, []⟩, ⟨.L1, 0x01, 0, [0, 1]⟩]⟩) = true := by decide
theorem test_ill_formed_signals : WellFormed (.frameBoundary (signals.set .I5 { goodSignal with rateDen := 0 })) = false := by decide
theorem test_ill_formed_pulse : WellFormed (.referencePulse 0 (signals.set .I1 { goodSignal with rateDen := 0 })) = false := by decide
theorem test_ill_formed_loss : WellFormed (.signalLoss .I1 5 4) = false := by decide
theorem test_ill_formed_kind : WellFormed (.undefinedKind .L1 0x0C 5 []) = false := by decide
theorem test_ill_formed_claims : WellFormed (.claim .L1 0 ⟨longParams, []⟩) = false ∧
    WellFormed (.claim .L1 0 ⟨[1], [⟨.L2, 0, longParams⟩]⟩) = false ∧ WellFormed (.claim .L1 0 ⟨[1], [⟨.L1, 0, [1]⟩]⟩) = false ∧
    WellFormed (.claim .L1 0 ⟨[1], [⟨.L3, 0, [1]⟩]⟩) = true := by decide
theorem test_well_formed : WellFormed (.undefinedKind .L1 0x50 5 []) = true ∧ WellFormed (.frameBoundary signals) = true := by decide

/-! Words and bytes. -/

/-- No row of the table gives bits. -/
theorem test_no_word : decodeTableWord 0 0 = none ∧ up.withFetchWord 8 0x0C = up := ⟨rfl, rfl⟩

/-- The two frames of R145. -/
theorem test_frames : frameBytes [0x0C, 0x05] = [0xA7, 0x02, 0x0C, 0x05, 0xED] ∧
    frameBytes [0x01, 0x07, 0x01, 0x09] = [0xA7, 0x04, 0x01, 0x07, 0x01, 0x09, 0xEA] := by decide

/-- Codes of R148 written out, and one that is in no row. -/
theorem test_kind_codes : Kind.ofCode 0x0C = some .cut ∧ Kind.ofCode 0x1A = some .erase ∧ Kind.ofCode 0x34 = some .setLink ∧
    Kind.ofCode 0x80 = none ∧ Kind.setLink.bodyLength = 15 := by decide

/-- The lengths that R146 gives, BANK STATE 27 and REFUSED 4; the items that R147 lists for a keyer record take 16 bytes, and the
answer to QUERY BANK has the 116 bytes it counts with records of 15 (log 34). -/
theorem test_body_lengths : (up.bankMessage.body).length = 27 ∧ (Message.refused 0 1 .empty).body.length = 4 ∧
    (keyerItems coldSettings false).length = 16 := by decide

/-- A reading accepted since the boundary shows in F alone; live and F valid are those of the boundary (R85, log 36). -/
theorem test_queried_fader :
    let s : State := { withBank { coldBank with fader := { coldFader with reading := 900, valid := true } } with
      settled := { coldFader with reading := 5, live := true } }
    s.queriedBank.fader = { coldFader with reading := 900, valid := false, live := true } := by decide

theorem test_query_bank_length (h : Config.keyerRecordsOf15 = true) :
    (Message.done 0 0x28 (bankBytes coldBank .wide)).body.length = 116 := by
  have := bankBytes_length coldBank .wide (List.Perm.refl Keyer.all)
  simp only [h, if_true] at this
  simp [Message.body, this]

/-! Pictures, with the figures of chapter 02. -/

theorem test_mix : mix 800 200 384 = 575 ∧ mix 200 800 640 = 575 ∧ mix 512 300 416 = 426 := by decide

theorem test_box_ramps : wipeRamp .F0 .box 1447 540 = 520 ∧ wipeRamp .F0 .box 1500 300 = 576 ∧
    wipeRamp .F0 .box 1200 540 = 256 := by decide

theorem test_soft_wipe : wipeCoefficient 520 512 64 = 384 ∧ wipeCoefficient 576 512 64 = 0 ∧
    wipeCoefficient 256 512 64 = 1024 ∧ wipeCoefficient (reversedRamp true 520) 512 64 = 656 := by decide

/-- K1 of the worked luma key: EXTERNAL, clip 400, gain 2048. -/
def lumaKey : KeySettings := { coldSettings with mode := .external, clip := 400, gain := 2048 }

theorem test_key : lumaKey.key 500 1447 540 = 800 ∧ { lumaKey with invert := true }.key 500 1447 540 = 224 ∧
    { lumaKey with maskMode := .inside, right := 959 }.key 500 1447 540 = 0 ∧
    { lumaKey with maskMode := .outside, right := 959 }.key 500 1447 540 = 800 ∧
    { lumaKey with mode := .linear }.key 502 1447 540 = 512 := by decide

/-- The soft BOX wipe with K1 over it: A is I1, B I2, FILL1 I3, SOURCE1 I4. -/
def wiping (members : ElementSet) : State :=
  { withBank { coldBank with
      a := .input .I1, b := .input .I2
      fill := coldBank.fill.set .K1 (.input .I3), source := coldBank.source.set .K1 (.input .I4)
      settings := coldBank.settings.set .K1 lumaKey, onAir := coldBank.onAir.set .K1 true
      setup := { coldSetup with type := .wipe, pattern := .box, softness := 64 }
      nextSet := members, state := .runManual, position := 512 } with
    ports := { status := .const .aligned, lost := .const [] } }

def rawLuma : RawSamples := fun i _ _ _ =>
  match i with
  | .I1 => 200 | .I2 => 800 | .I3 => 900 | .I4 => 500
  | .I5 => 0 | .I6 => 0 | .I7 => 0 | .I8 => 0 | .I9 => 0 | .I10 => 0 | .I11 => 0 | .I12 => 0

theorem test_program_luma : (wiping coldNextSet).programSample rawLuma .y 1447 540 = 796 ∧
    (wiping { coldNextSet with keys := ⟨true, false, false, false⟩ }).programSample rawLuma .y 1447 540 = 657 := by decide

theorem test_preview_luma : (wiping coldNextSet).previewSample rawLuma .y 1447 540 = 878 ∧
    (wiping { coldNextSet with keys := ⟨true, false, false, false⟩ }).previewSample rawLuma .y 1447 540 = 800 := by decide

/-- A part of the frame that is not received is black (R7). -/
theorem test_signal_loss : (after (.signalLoss .I1 0 10) (wiping coldNextSet)).map
    (fun t => (t.deliver rawLuma (.input .I1) .y 10 0, t.deliver rawLuma (.input .I1) .y 11 0)) = some (64, 200) := by decide

/-! Transitions and the fader, with the figures of chapters 04 and 05. -/

theorem test_auto_positions : (Bank.step^[1] (auto25 0)).position = 40 ∧ (auto25 1).step.position = 81 ∧
    (auto25 11).step.position = 491 := by decide

theorem test_takeover : ((withBank (manual 370)).applyAuto (cutBy .L1)).bank.count = 10 ∧
    ((withBank (manual 370)).applyAuto (cutBy .L1)).bank.step.position = 450 := by decide

theorem test_filter : filterNext 2000 1000 8 = 1500 ∧ filterNext 2000 1875 8 = 1937 ∧ filterNext 1000 1001 8 = 1000 := by decide

theorem test_bar : barOf (adjusted .up 1500) 64 4031 = 370 ∧ barOf (adjusted .down 1500) 64 4031 = 653 := by decide

/-- Boundary 20 of the worked pickup: a completion by the fader that leaves it live. -/
theorem test_fader_completion :
    let b : Bank := { manual 1022 with
      a := .input .I3, b := .input .I7
      fader := { (manual 1022).fader with reading := 4095, filtered := 4025 } }
    b.step.a = .input .I7 ∧ b.step.state = .idle ∧ b.step.fader.filtered = 4060 ∧ b.step.fader.direction = .down ∧
      b.step.fader.live = true := by decide

/-- A lever that has passed P picks the fader up (the worked pickup, boundary 12 at 2400). -/
theorem test_pickup :
    let b : Bank := { manual 370 with
      fader := { (manual 370).fader with reading := 2400, filtered := 1000, live := false, previous := 241 } }
    b.step.position = 422 ∧ b.step.fader.live = true := by decide

/-! Requests, one step each. -/

theorem test_select_queued : (after (.select .L1 7 ⟨[1, 9], []⟩) up).map (fun t => (t.queue, t.links.l1.reserved)) =
    some ([⟨.L1, 7, .select .b (.input .I9)⟩], 1) := by decide

/-- A CUT of L3 and a SELECT of L1 that reach the queue together: the entry of L1 stands ahead (R87); and with one place left L3's
CUT finds none. -/
theorem test_cut_together :
    (after (.cut .L3 8 ⟨[], [⟨.L1, 0x01, 7, [1, 9]⟩]⟩) up).map (fun t => t.queue) =
      some [⟨.L1, 7, .select .b (.input .I9)⟩, ⟨.L3, 8, .cut⟩] ∧
    (after (.cut .L3 8 ⟨[], [⟨.L1, 0x01, 7, [1, 9]⟩]⟩) (queued (List.replicate 15 (cutBy .L2)))).map
      (fun t => (t.queue.getLast?, t.links.l3.transmit)) =
        some (some ⟨.L1, 7, .select .b (.input .I9)⟩, [.refused 8 0x0C .queueFull]) := by decide

theorem test_select_bad_source : lastReply (.select .L1 7 ⟨[1, 20], []⟩) up = some (.refused 7 0x01 .badValue) := by decide

theorem test_matte_clamped : (after (.matte .L1 7 ⟨[0, 0, 255, 255, 2, 0], []⟩) up).map (fun t => t.queue) =
    some [⟨.L1, 7, .matte ⟨64, 960, 512⟩⟩] := by decide +kernel

/-- KEY SETUP with clip 1500 and gain 20000 (R40). -/
theorem test_key_setup_clamped : (after (.keySetup .L1 7 ⟨[2, 0, 5, 220, 78, 32, 0], []⟩) up).map (fun t => t.queue) =
    some [⟨.L1, 7, .keySetup .K2 .selfKey 1023 16383 false⟩] := by decide +kernel

/-- KEY MASK sent beyond the F0 picture (R42). -/
theorem test_mask_clamped :
    (after (.frameBoundary signals) (queued [⟨.L1, 7, .keyMask .K1 .inside 3000 4000 0 1079⟩])).map
      (fun t => t.bank.settings.k1) = some { coldSettings with maskMode := .inside, left := 1919, right := 1919 } := by decide

theorem test_key_order_twice : lastReply (.keyOrder .L1 7 ⟨[1, 1, 2, 3], []⟩) up = some (.refused 7 0x0E .badValue) := by decide

theorem test_next_set_empty : lastReply (.nextSet .L1 7 ⟨[0, 0, 0, 0, 0], []⟩) up = some (.refused 7 0x08 .badValue) := by decide

theorem test_queue_full : lastReply (.cut .L1 7 ⟨[], []⟩) crowded = some (.refused 7 0x0C .queueFull) := by decide

theorem test_cut_at_boundary : (after (.frameBoundary signals)
    { queued [cutBy .L1] with bank := { coldBank with a := .input .I1, b := .input .I2 } }).map
      (fun t => (t.bank.a, t.programLine .I2, t.previewLine .I1)) = some (.input .I2, true, true) := by decide

theorem test_fader_not_held : lastReply (.fader .L1 7 [0, 100]) up = some (.refused 7 0x0D .notHeld) := by decide

theorem test_fader_accepted : (after (.fader .L1 7 [255, 255]) (holding .trans (.acquired .L1 false))).map
    (fun t => (t.bank.fader.reading, t.links.l1.transmit, t.arbiter.holdings.trans)) =
      some (4095, [], .acquired .L1 true) := by decide

/-- Event f of the worked contest: L3 outranks L1 and takes TRANS over, withdrawing L1's entries. -/
def contested : State :=
  { holding .trans (.acquired .L1 true) with
    queue := [cutBy .L1, ⟨.L2, 9, .select .b (.input .I6)⟩]
    arbiter := { (holding .trans (.acquired .L1 true)).arbiter with
      attributes := coldArbiter.attributes.set .L3 { coldAttributes with rank := 2 } }
    links := up.links.set .L1 { freshPort with reserved := 1 } }

theorem test_takeover_claim : (after (.claim .L3 7 ⟨[1], []⟩) contested).map
    (fun t => (t.arbiter.holdings.trans, t.queue, t.links.l1.transmit.head?, t.links.l3.transmit.getLast?)) =
      some (.acquired .L3 true, [⟨.L2, 9, .select .b (.input .I6)⟩], some (.refused 5 0x0C .withdrawn),
        some (.done 7 0x20 [1, 2, 1])) ∧
    (after (.claim .L2 7 ⟨[1], []⟩) contested).bind (fun t => t.links.l2.transmit.getLast?) =
      some (.refused 7 0x20 .claimDenied) := by decide

/-- The pair of R109, L3 above L1, listed against its order: both DONE, then one HOLDINGS report with L3, which L1 finds behind its
DONE. -/
theorem test_claims_together : (after (.claim .L3 8 ⟨[1], [⟨.L1, 7, [1]⟩]⟩) { contested with
      queue := [], arbiter := { contested.arbiter with holdings := .const .free } }).map (fun t => (t.links.l1.transmit, t.links.l3.transmit)) =
    some ([.done 7 0x20 [1, 0, 0], .holdings 0 ((PerGroup.const none).set .trans (some (.L3, .acquired)))],
      [.done 8 0x20 [1, 2, 1], .holdings 0 ((PerGroup.const none).set .trans (some (.L3, .acquired)))]) := by decide

theorem test_release_not_held : lastReply (.release .L1 7 ⟨[2, 0, 0], []⟩) (holding .k1 (.static .L1)) =
    some (.refused 7 0x21 .notHeld) := by decide

/-- A sweep clears a mark, and frees a holding found without one (R116). -/
theorem test_sweep : (after .sweep { holding .k1 (.acquired .L1 true) with
    arbiter := { (holding .k1 (.acquired .L1 true)).arbiter with
      holdings := (holding .k1 (.acquired .L1 true)).arbiter.holdings.set .k2 (.acquired .L2 false), sweepMark := .owed } }).map
      (fun t => (t.arbiter.holdings.k1, t.arbiter.holdings.k2)) = some (.acquired .L1 false, .free) := by decide

theorem test_assign_static : (after (.assignStatic .L1 7 [6, 2]) up).map (fun t => t.arbiter.holdings.memory) =
    some (.static .L2) := by decide

theorem test_unassign_not_static : lastReply (.unassignStatic .L1 7 [6]) up = some (.refused 7 0x36 .notStatic) := by decide

theorem test_set_link_self : lastReply (.setLink .L1 7 [1, 0, 0, 0, 0, 0, 0, 0, 0, 0, 0, 0, 1]) up =
    some (.refused 7 0x34 .badValue) := by decide

/-- T 1..24 becomes 25 (R115). -/
theorem test_set_aging : lastReply (.setAging .L1 7 [0, 3]) up = some (.done 7 0x33 [0, 25]) := by decide +kernel

/-- A sweep taken ahead of its boundary and a SET AGING before that boundary: the count was taken under the former T, so the counter
stands restarted after the boundary and no sweep is owed (R115). A SET AGING alone: the boundary counts from the restarted counter. -/
theorem test_set_aging_at_boundary :
    let s : State := { up with arbiter := { up.arbiter with sweepPeriod := 25, sweepCounter := 24 } }
    let aged (t : State) := (after (.setAging .L1 7 [0, 30]) t).bind (after (.frameBoundary signals))
    ((after .sweep s).bind aged).map (fun t => (t.arbiter.sweepPeriod, t.arbiter.sweepCounter, t.arbiter.sweepMark)) =
      some (30, 0, .none) ∧
    (aged s).map (fun t => (t.arbiter.sweepPeriod, t.arbiter.sweepCounter, t.arbiter.sweepMark)) = some (30, 1, .none) := by
  decide +kernel

theorem test_store_and_walk : (after (.store .L1 7 [3, 0, 0, 1, 0, 0, 0]) up).bind
    (fun t => lastReply (.walkMemory .L1 8 [0]) t) = some (.done 8 0x2B [1, 1, 3, 0, 0, 1, 0, 0, 0]) := by decide

theorem test_recall_empty : (after (.frameBoundary signals)
    (queued [⟨.L1, 7, .recallEffects .E1 ⟨true, true, .const true⟩⟩])).bind (fun t => t.links.l1.transmit.head?) =
      some (.refused 7 0x19 .empty) := by decide

theorem test_lock : lastReply (.lockSetup .L1 7 []) up = some (.done 7 0x37 [0]) ∧
    lastReply (.setRephase .L1 7 [0]) lockedUp = some (.refused 7 0x32 .locked) := by decide

/-- Event a of the worked burst: the record stops at 255. -/
theorem test_log_stops : ((RefusalLog.note { emptyLog with
    records := some ⟨.L3, 0x0D, .notHolder, some .trans, 5000, 255⟩ :: List.replicate 7 none }
      ⟨.L3, 0x0B, .notHolder, some .trans, 5001, 1⟩).records.head?) =
        some (some ⟨.L3, 0x0D, .notHolder, some .trans, 5000, 255⟩) := by decide +kernel

theorem test_warm_reset : (after (.warmReset .L1 7 []) (holding .k1 (.acquired .L1 true))).map
    (fun t => (t.statusLines, t.setup.record, t.arbiter.holdings.k1, t.links.l1)) =
      some ((false, true), .warmRequest, .free, freshPort) := by decide

theorem test_cold_reset : (after .coldResetAsserted (withBank (manual 370))).map
    (fun t => (t.statusLines, t.bank, t.compositor.blackout)) = some ((false, false), coldBank, true) := by decide

/-- The boundary that ends the first initialisation carries frame count 1 and four reports (R162). -/
theorem test_first_boundary : (after (.frameBoundary signals) State.reset).map
    (fun t => (t.reference.frameCount, t.links.l4.transmit.map Message.slot)) =
      some (1, [some .status, some .holdings, some .bankState, some .tally]) := by decide

theorem test_undefined_kind : lastReply (.undefinedKind .L1 0x50 7 [1]) up = some (.refused 7 0x50 .badKind) := by decide

/-- A gap that expires inside a frame (R151). -/
theorem test_gap : (after (.byteGapExpiry .L1) (portOf { freshPort with receiver := .length })).map
    (fun t => (t.links.l1.receiver, t.links.l1.counters.rxBad)) = some (.hunt, 1) := by decide

/-- The transmitter sends a reply and counts it (R153, R154). -/
theorem test_transmission : ((after (.transmissionBegins .L1) (portOf { freshPort with transmit := [.done 7 1 []] })).bind
    (fun t => after (.transmissionEnds .L1) t)).map (fun t => (t.links.l1.transmit, t.links.l1.counters.doneSent)) =
      some ([], 1) := by decide

/-- The CUT frame of R145, byte by byte. -/
theorem test_cut_by_bytes : (match receiveAll .L1 [0xA7, 0x02, 0x0C, 0x05, 0xED] up with
    | .next t => t.queue | .fault _ => [] | .refused _ => []) = [cutBy .L1] := by decide

def acquired (n : Nat) : State :=
  { up with reference := { up.reference with state := .acquiring, goodCount := n, expected := some 10800000 } }

/-- The eighth good pulse within 1 line of a boundary locks the unit (R137). -/
theorem test_lock_to_reference : (after (.referencePulse 10791000 signals) (acquired 7)).map
    (fun t => (t.reference.state, t.reference.eventFlag, t.statusLines)) = some (.locked, true, (true, true)) := by decide

def lockedTo (missing : Nat) : State :=
  { up with reference := { up.reference with state := .locked, missingCount := missing, expected := some 10800000 } }

/-- The third missing pulse is a loss (R139). -/
theorem test_loss : (after .missingPulse (lockedTo 2)).map (fun t => (t.reference.state, t.reference.eventFlag)) =
    some (.freeRun, true) := by decide

/-! Witnesses of hypotheses: each is named after the statement whose hypotheses, clause by clause, it meets. -/

theorem witness_StepTakesFront : up.pending = [] := rfl

/-- A state in the middle of things, with a command waiting: L1 holds TRANS and drives a manual transition, its CUT waits. -/
def busy : State :=
  { holding .trans (.acquired .L1 true) with
    bank := manual 370
    tally := (manual 370).tally
    queue := [cutBy .L1]
    links := up.links.set .L1 { freshPort with
      receiver := .body 2 [0x0C], reserved := 1, transmit := [.done 0 1 [], .tally 0 clearTally] }
    reference := { up.reference with state := .acquiring, goodCount := 7, expected := some 10800000 }
    log := emptyLog.note ⟨.L1, 0x0C, .badLength, none, 0, 1⟩
    pending := [.sweep] }

theorem busy_steps : ∃ t, step busy = .next t := ⟨_, rfl⟩

theorem witness_HoldingsLawKept : busy.HoldingsLaw ∧ ∃ t, step busy = .next t := by
  refine ⟨⟨?_, ?_, ?_, ?_, fun _ => nofun, fun _ => rfl, fun l => by cases l <;> decide, .inr (by decide), .inl rfl⟩, busy_steps⟩
  · intro e he g hg
    obtain rfl : e = cutBy .L1 := by simpa [busy] using he
    cases hg
    exact ⟨rfl, .inr rfl⟩
  · intro e he
    obtain rfl : e = cutBy .L1 := by simpa [busy] using he
    rfl
  · intro g l _; cases l <;> cases g <;> rfl
  · intro g l m _; cases l <;> rfl

theorem manual_lawful : (manual 370).Lawful .F0 :=
  { cold_lawful with
    position := ⟨by decide, by decide, rfl⟩
    fader := by unfold Fader.InRange FaderSettingsInRange; decide }

theorem witness_BankLawKept : busy.BankLaw ∧ ∃ t, step busy = .next t := by
  have bare : emptyEffects.Lawful := ⟨fun _ h => by simp [emptyEffects] at h, fun _ _ h => by simp [emptyEffects] at h⟩
  have none_stored : ∀ r, busy.memory.registers.get r = emptyEffects := fun r => by
    rw [show busy.memory.registers = .const emptyEffects from rfl]; simp
  refine ⟨⟨manual_lawful, fun r => none_stored r ▸ bare, fun e he => ?_⟩, busy_steps⟩
  · obtain rfl : e = cutBy .L1 := by simpa [busy] using he
    trivial

theorem witness_LinksLawKept : busy.LinksLaw ∧ ∃ t, step busy = .next t := by
  refine ⟨⟨by decide, fun l => by cases l <;> rfl, fun l => by cases l <;> decide, fun l r => by cases l <;> cases r <;> decide,
    fun l => ?_, fun l => by cases l <;> (unfold Counters.InRange; decide)⟩, busy_steps⟩
  cases l
  · exact ⟨by decide, by decide, by decide⟩
  · trivial
  · trivial
  · trivial

theorem witness_LogLawKept : busy.log.Lawful ∧ ∃ t, step busy = .next t := by
  refine ⟨⟨rfl, ?_, ?_⟩, busy_steps⟩
  · intro i j a b hi hj _
    have one : ∀ (i : Nat) (a : LogRecord), busy.log.records[i]? = some (some a) → i = 0 := by
      intro i a h
      match i with
      | 0 => rfl
      | 1 | 2 | 3 | 4 | 5 | 6 | 7 => cases h
      | n + 8 => cases h
    rw [one i a hi, one j b hj]
  · intro a ha
    obtain rfl : a = ⟨.L1, 0x0C, .badLength, none, 0, 1⟩ := by
      simpa [busy, emptyLog, RefusalLog.note, fillFirst, Config.logRecords, List.replicate] using ha
    decide

theorem witness_TallyLawKept : busy.tally = busy.bank.tally ∧ ∃ t, step busy = .next t := ⟨rfl, busy_steps⟩

theorem witness_ReferenceLawKept : busy.reference.Lawful ∧ ∃ t, step busy = .next t :=
  ⟨⟨by decide, by decide, rfl, rfl⟩, busy_steps⟩

theorem reset_restartLaw : State.reset.RestartLaw where
  coldLine := by decide
  warmLine := nofun
  black := nofun
  blackOnlyAfterCold := fun _ => rfl
  links := fun _ l => by cases l <;> rfl
  queue := fun _ => rfl
  holdings := fun _ g l m => by cases g <;> exact nofun
  lock := fun _ => rfl

theorem witness_RestartLawKept : State.reset.RestartLaw ∧ ∃ t, step State.reset = .next t := ⟨reset_restartLaw, _, rfl⟩

theorem witness_BankChangesAtBoundaries :
    (after (.fader .L1 5 [4, 0]) (holding .trans (.acquired .L1 false))).map (fun t => t.bank.fader.reading) = some 1024 := by
  decide +kernel

theorem witness_StaticHoldingsEnd :
    (∃ t, exec (.unassignStatic .L2 5 [2]) (holding .k1 (.static .L1)) = .next t ∧ t.arbiter.holdings.get .k1 ≠ .static .L1) ∧
    (∃ t, exec (.assignStatic .L2 5 [2, 3]) (holding .k1 (.static .L1)) = .next t ∧ t.arbiter.holdings.get .k1 = .static .L3) ∧
    (∃ t, exec .coldResetAsserted (holding .k1 (.static .L1)) = .next t ∧ t.arbiter.holdings.get .k1 ≠ .static .L1) ∧
    (∃ t, exec (.undefinedKind .L2 0x36 5 [2]) (holding .k1 (.static .L1)) = .next t ∧ t.arbiter.holdings.get .k1 = .free) ∧
    (∃ t, exec (.byteReceived .L1 0xC0 true) { portOf { freshPort with receiver := .check 3 [0x36, 5, 2] } with
        arbiter := (holding .k1 (.static .L1)).arbiter } = .next t ∧ t.arbiter.holdings.get .k1 = .free) :=
  ⟨⟨_, rfl, by decide⟩, ⟨_, rfl, by decide⟩, ⟨_, rfl, by decide⟩, ⟨_, rfl, by decide⟩, ⟨_, rfl, by decide⟩⟩

theorem witness_MixLaws : mix 200 800 384 = 425 ∧ mix 800 200 640 = 425 ∧ mix 0 1023 1024 = 1023 := by decide

/-- The corner and a centre pixel of BOX, in a format of each height. -/
theorem witness_WipeRamps : wipeRamp .F0 .box 1919 1079 = 1023 ∧ wipeRamp .F0 .box 960 540 = 0 ∧
    wipeRamp .F2 .box 640 360 = 1 ∧ |2 * (640 : Int) - (1280 - 1)| = 1 ∧ |2 * (360 : Int) - (720 - 1)| = 1 := by decide

/-- Either softness, at the limits of the band and of P. -/
theorem witness_WipeCoefficients : wipeCoefficient 511 512 0 = 1024 ∧ wipeCoefficient 512 512 0 = 0 ∧
    512 * (1024 + 64) / 1024 = 544 ∧ wipeCoefficient 480 512 64 = 1024 ∧ wipeCoefficient 544 512 64 = 0 ∧
    wipeCoefficient 0 0 256 = 0 ∧ wipeCoefficient 1023 1024 256 = 1024 := by decide

/-- Inside and outside a one-column mask, no mask, a luma at the clip, and a level at either end. -/
theorem witness_KeySignals : ({ lumaKey with maskMode := .inside, left := 5, right := 5 }).key 1019 5 0 = 1024 ∧
    ({ lumaKey with maskMode := .inside, left := 5, right := 5 }).key 1019 6 0 = 0 ∧
    ({ lumaKey with maskMode := .outside, left := 5, right := 5 }).key 1019 5 0 = 0 ∧
    ({ lumaKey with maskMode := .outside, left := 5, right := 5 }).key 1019 4 0 = 1024 ∧
    lumaKey.key 400 0 0 = 0 ∧ ({ lumaKey with mode := .linear }).key 4 0 0 = 0 ∧
    effectiveKey 800 1024 = 800 ∧ effectiveKey 800 0 = 0 ∧
    (wiping coldNextSet).bank.state ≠ .idle ∧ (wiping coldNextSet).compositor.blackout = false := by decide

theorem witness_PicturesInRange : coldBank.Lawful .F0 ∧ State.reset.reference.format = .F0 ∧ 1919 < Format.F0.width ∧
    1079 < Format.F0.height ∧ State.reset.compositor.blackout = true ∧ up.compositor.blackout = false :=
  ⟨cold_lawful, rfl, by decide, by decide, rfl, rfl⟩

/-- An input not aligned, one aligned and received, and one with a run lost. -/
theorem witness_SignalLosses : up.ports.status.get .I1 ≠ .aligned ∧ (wiping coldNextSet).ports.status.get .I1 = .aligned ∧
    (wiping coldNextSet).ports.lost.get .I1 = [] ∧
    (after (.signalLoss .I1 3 5) (wiping coldNextSet)).map (fun t => t.ports.lost.get .I1) = some [(3, 5)] := by decide

theorem witness_CompletionActs : coldBank.nextSet.bkgd = true ∧
    ({ coldBank with nextSet := ⟨false, ⟨true, false, false, false⟩⟩ } : Bank).nextSet.bkgd = false := ⟨rfl, rfl⟩

theorem witness_AutoRunsItsCourse : (auto25 1).state = .runAuto ∧ (auto25 1).count < (auto25 1).setup.rate ∧
    (auto25 1).count + 0 < (auto25 1).setup.rate ∧ (auto25 1).count + 23 < (auto25 1).setup.rate ∧
    (auto25 1).count + 24 = (auto25 1).setup.rate := by decide

theorem witness_FilterLaw : filterNext 4095 0 16 = 4095 ∧ filterNext 0 4095 1 = 3840 ∧ filterNext 7 7 1 = 7 := by decide

/-- S' at L, at U and one inside either. -/
theorem witness_BarPositions : coldFader.InRange ∧ barOf 64 64 4031 = 0 ∧ barOf 65 64 4031 = 0 ∧ barOf 4030 64 4031 = 1023 ∧
    barOf 4031 64 4031 = 1024 := ⟨cold_lawful.fader, by decide⟩

/-- The bar position of a bank whose lever stands at a filtered value and whose filter has no way to go. -/
def leverAt (state : TransitionState) (p s : Nat) (live : Bool) : Bank :=
  { coldBank with
    state := state, position := p
    fader := { coldFader with reading := s, filtered := s, valid := true, live := live, previous := 0 } }

theorem leverAt_inRange (state : TransitionState) (p s : Nat) (live : Bool) (h : s ≤ 4095) : (leverAt state p s live).fader.InRange :=
  ⟨h, h, Nat.zero_le _, (cold_lawful.fader).2.2.2⟩

/-- No reading; a lever off P; live in IDLE at 0; abandoned; followed; completed; and picked up by equality. -/
theorem witness_FaderDrives :
    (coldBank.state ≠ .runAuto ∧ coldBank.fader.InRange ∧ coldBank.fader.valid = false) ∧
    ((leverAt .runManual 700 1500 false).fader.InRange ∧ (leverAt .runManual 700 1500 false).step.position = 700) ∧
    ((leverAt .idle 0 64 true).fader.InRange ∧ (leverAt .idle 0 64 true).step.state = .idle) ∧
    ((leverAt .runManual 5 64 true).fader.InRange ∧ (leverAt .runManual 5 64 true).step.state = .idle) ∧
    ((leverAt .idle 0 1500 true).fader.InRange ∧ (leverAt .idle 0 1500 true).step.position = 370) ∧
    ((leverAt .runManual 5 4031 true).fader.InRange ∧ (leverAt .runManual 5 4031 true).step.state = .idle) ∧
    (leverAt .runManual 370 1500 false).step.fader.live = true :=
  ⟨⟨by decide, cold_lawful.fader, rfl⟩, ⟨leverAt_inRange _ _ _ _ (by decide), by decide⟩,
   ⟨leverAt_inRange _ _ _ _ (by decide), by decide⟩, ⟨leverAt_inRange _ _ _ _ (by decide), by decide⟩,
   ⟨leverAt_inRange _ _ _ _ (by decide), by decide⟩, ⟨leverAt_inRange _ _ _ _ (by decide), by decide⟩, by decide⟩

/-- 12 lines of F0, 115200 units, are 8 lines of F2: an input that far off is ALIGNED in F2 and MISALIGNED in F0 (R2, R3). -/
theorem test_offset_in_new_lines : evaluateInput .F2 { goodSignal with width := 1280, height := 720, offset := 115200 } = .aligned ∧
    evaluateInput .F2 { goodSignal with width := 1280, height := 720, offset := 115201 } = .misaligned ∧
    evaluateInput .F0 { goodSignal with offset := 115200 } = .misaligned := by decide

/-- An offset of 8 lines, of one unit more, another width, another rate, and no signal. -/
theorem witness_InputStatuses : evaluateInput .F0 { goodSignal with offset := -76800 } = .aligned ∧
    evaluateInput .F0 { goodSignal with offset := 76801 } = .misaligned ∧
    evaluateInput .F0 { goodSignal with width := 1280 } = .wrongFormat ∧
    evaluateInput .F1 { goodSignal with rateNum := 60, rateDen := 1 } = .wrongFormat ∧
    evaluateInput .F0 { goodSignal with locked := false } = .absent ∧
    evaluateInput .F0 { goodSignal with startSeen := false } = .absent ∧ goodSignal.rateDen ≠ 0 := by decide

def coldHeld : State := { State.reset with setup := { State.reset.setup with coldLine := true, phase := .coldReset } }

/-- A cold reset; a queue of a CUT, which changes no format; and a boundary while running at which the statuses change. -/
theorem witness_BoundaryTaken : coldHeld.setup.phase = .coldReset ∧ busy.setup.phase ≠ .coldReset ∧ busy.setup.phase = .running ∧
    ((after (.frameBoundary signals) up).map fun t => (decide (t.ports.status ≠ up.ports.status), t.links.l1.transmit.map Message.slot))
      = some (true, [some .status]) ∧
    (∀ e ∈ busy.queue, ∀ f, e.action ≠ .setFormat f) := by
  refine ⟨rfl, by decide, rfl, by decide, fun e he => ?_⟩
  obtain rfl : e = cutBy .L1 := by simpa [busy] using he
  exact nofun

theorem witness_QueueAppliedInOrder : busy.queue = cutBy .L1 :: [] ∧ (∀ e ∈ busy.queue, ∀ scope, e.action ≠ .release scope) := by
  refine ⟨rfl, fun e he => ?_⟩
  obtain rfl : e = cutBy .L1 := by simpa [busy] using he
  exact nofun

/-- A bank that runs with BKGD in the set, one that runs without, and one in IDLE. -/
def keyed : Bank := { manual 370 with nextSet := ⟨false, ⟨true, false, false, false⟩⟩ }

theorem witness_BackgroundApplied : ((manual 370).state ≠ .idle ∧ (manual 370).nextSet.bkgd = true) ∧
    (keyed.state ≠ .idle ∧ keyed.nextSet.bkgd = false) ∧ up.bank.state = .idle := by decide

theorem witness_TransitionSettingsApplied : (withBank (manual 370)).bank.state ≠ .idle ∧ up.bank.state = .idle := by decide

/-- The worked takeover, and a P whose product with D is a multiple of 1024. -/
theorem witness_AutoAndCutApplied : up.bank.state = .idle ∧ (manual 370).state = .runManual ∧
    ((manual 370).position * 25 ≤ 10 * 1024 ∧ 10 * 1024 < (manual 370).position * 25 + 1024) ∧
    (({ manual 512 with setup := { coldSetup with rate := 2 } } : Bank).position * 2 ≤ 1 * 1024 ∧ 1 * 1024 < 512 * 2 + 1024) ∧
    (auto25 1).state = .runAuto := by decide

theorem witness_KeyersApplied : (keyed.state ≠ .idle ∧ keyed.nextSet.keys.get .K1 = true) ∧ keyed.nextSet.keys.get .K2 = false ∧
    up.bank.state = .idle := by decide

/-- E1 holds BKGD and K1. -/
def stored : State :=
  { up with memory := { up.memory with
      registers := up.memory.registers.set .E1 (coldBank.capture ⟨true, false, ⟨true, false, false, false⟩⟩) } }

/-- An empty register, a register with parts in IDLE and in a transition, and a scope that a holding narrows to nothing. -/
theorem witness_RecallApplied : up.memory.registers.get .E1 = { bkgd := none, trans := none, keys := .const none } ∧
    stored.memory.registers.get .E1 ≠ { bkgd := none, trans := none, keys := .const none } ∧ stored.bank.state = .idle ∧
    (stored.actualScope .L1 .E1 ⟨true, true, .const true⟩) = ⟨true, false, ⟨true, false, false, false⟩⟩ ∧
    ({ stored with arbiter := (holding .bkgd (.static .L2)).arbiter } : State).actualScope .L1 .E1
      ⟨true, false, .const false⟩ = ⟨false, false, .const false⟩ ∧
    ({ stored with bank := manual 370 } : State).bank.state ≠ .idle := by decide

theorem witness_SetupApplied : (withBank (manual 370)).bank.state ≠ .idle ∧ up.bank.state = .idle ∧ up.reference.format = .F0 ∧
    Format.F0 ≠ .F2 := by decide

theorem witness_TallyDerivation : up.setup.phase ≠ .coldReset ∧ ∃ t, exec (.frameBoundary signals) up = .next t :=
  ⟨by decide, _, rfl⟩

/-- A slot that is free and one that is taken; and each of the four ways a boundary can stand to a link. -/
theorem witness_BoundaryReports :
    (Message.tally 1 clearTally).slot = some .tally ∧
    (∀ x ∈ [Message.done 0 1 [], .status up.statusContents], x.slot ≠ some .tally) ∧
    (Message.tally 0 clearTally).slot = some .tally ∧ up.setup.phase = .running ∧
    (up.takesReports .L1 = true ∧ up.bank.contents = up.reported ∧ up.tally = clearTally) ∧
    ({ up with arbiter := { up.arbiter with refresh := .const true } } : State).arbiter.refresh.get .L1 = true ∧
    (withBank (manual 370)).bank.contents ≠ up.reported ∧
    up.tally ≠ { clearTally with program := .const true } ∧
    ({ up with arbiter := { up.arbiter with
      attributes := .const { coldAttributes with reports := false } } } : State).takesReports .L1 = false := by decide

theorem witness_PictureRequestsAdmitted (a : Action) : up.Admits .L1 a := free_admits .L1 a

/-- A holder of the group, with one place left in the queue. -/
theorem witness_TransitionRequestsAdmitted : coldNextSet.Nonempty ∧ [Keyer.K2, .K4, .K1, .K3].Nodup ∧
    ({ holding .trans (.acquired .L1 false) with queue := List.replicate 15 (cutBy .L1) } : State).Admits .L1 .auto := by
  refine ⟨.inl rfl, by decide, ⟨rfl, rfl, by decide⟩, fun g hg => ?_, by decide, fun _ => rfl⟩
  cases hg
  exact ⟨rfl, .inr rfl⟩

theorem witness_OtherRequestsAdmitted : (PartSet.isEmpty ⟨false, true, .const false⟩) = false ∧ up.Admits .L4 (.release .all) ∧
    up.Admits .L4 (.setFormat .F3) := ⟨by decide, free_admits _ _, free_admits _ _⟩

/-- Two requests that both find room, and two of which the second finds none. -/
theorem witness_OtherRequestsAdmitted_together :
    let es : List Entry := [⟨.L1, 7, .select .b (.input .I9)⟩, ⟨.L3, 8, .cut⟩]
    let short : State := queued (List.replicate 15 (cutBy .L2))
    (∀ e ∈ es, e.action.Sendable ∧ up.Admits e.link e.action ∧ short.Admits e.link e.action) ∧
    es.Pairwise (fun e f => (Link.code e.link).toNat < (Link.code f.link).toNat) ∧
    up.queue.length + es.length ≤ 16 ∧ short.queue.length + (es.take 1).length = 16 := by
  refine ⟨fun e he => ?_, by decide, by decide, by decide⟩
  have may : ∀ l g, (queued (List.replicate 15 (cutBy .L2))).MayUse l g := free_mayUse
  simp only [List.mem_cons, List.not_mem_nil, or_false] at he
  rcases he with rfl | rfl
  · exact ⟨⟨trivial, trivial⟩, free_admits _ _, ⟨rfl, rfl, by decide⟩, fun g _ => may _ g, by decide, fun _ => rfl⟩
  · exact ⟨⟨trivial, trivial⟩, free_admits _ _, ⟨rfl, rfl, by decide⟩, fun g _ => may _ g, by decide, fun _ => rfl⟩

theorem serves_barring (g : Group) : (barring g).Serves .L1 := by cases g <;> exact ⟨rfl, rfl, by decide⟩

theorem serves_holding (g : Group) (h : Holding) (l : Link) : (holding g h).Serves l := by cases l <;> exact ⟨rfl, rfl, Nat.zero_lt_succ 11⟩

theorem witness_ArrivalRefusals : (Action.keyMask .K4 .none 65535 0 0 65535).Sendable ∧ Action.cut.Sendable ∧
    (Action.setFormat .F1).Sendable ∧
    ((barring .trans).Serves .L1 ∧ (barring .trans).barredFrom .L1 .trans = true) ∧
    ((holding .trans (.static .L2)).Serves .L1 ∧ (holding .trans (.static .L2)).barredFrom .L1 .trans = false ∧
      (holding .trans (.static .L2)).holder .trans = some .L2) ∧
    (crowded.Serves .L1 ∧ crowded.MayUse .L1 .trans ∧ 16 ≤ crowded.queue.length) ∧
    (lockedUp.Serves .L1 ∧ lockedUp.MayUse .L1 .setup ∧ lockedUp.queue.length < 16 ∧ lockedUp.setup.lock = true) :=
  ⟨⟨trivial, by decide⟩, ⟨trivial, trivial⟩, ⟨trivial, trivial⟩, ⟨serves_barring _, rfl⟩,
   ⟨serves_holding _ _ _, rfl, rfl⟩, ⟨⟨rfl, rfl, by decide⟩, ⟨rfl, .inl rfl⟩, by decide⟩,
   ⟨⟨rfl, rfl, by decide⟩, ⟨rfl, .inl rfl⟩, by decide, rfl⟩⟩

/-- A CUT of three bytes, with room for an answer and without; a CUT of the right length without room. -/
theorem witness_LengthsAndSlots : (up.setup.phase = .running ∧ up.enabled .L1 = true ∧ (up.links.get .L1).slotsUsed < 12) ∧
    (slotless.setup.phase = .running ∧ slotless.enabled .L1 = true ∧ 12 ≤ (slotless.links.get .L1).slotsUsed) ∧
    ([0] : List Byte).length + 2 ≠ Kind.cut.bodyLength ∧ Kind.cut ≠ .fader ∧ Kind.cut ≠ .warmReset := by decide

/-- The least value that each kind's fields refuse, in the order of the statement's clauses. -/
theorem witness_UndefinedValues : up.Serves .L1 ∧
    lastReply (.select .L1 1 ⟨[2, 1], []⟩) up = some (.refused 1 0x01 .badValue) ∧
    lastReply (.nextSet .L1 1 ⟨[0, 2, 0, 0, 0], []⟩) up = some (.refused 1 0x08 .badValue) ∧
    lastReply (.transitionSetup .L1 1 ⟨[0, 4, 0, 0, 0, 1, 0, 0], []⟩) up = some (.refused 1 0x09 .badValue) ∧
    lastReply (.keyOrder .L1 1 ⟨[1, 2, 3, 5], []⟩) up = some (.refused 1 0x0E .badValue) ∧
    lastReply (.keySelect .L1 1 ⟨[0, 0, 1], []⟩) up = some (.refused 1 0x10 .badValue) ∧
    lastReply (.keySelect .L1 1 ⟨[4, 0, 15], []⟩) up = some (.refused 1 0x10 .badValue) ∧
    lastReply (.keySetup .L1 1 ⟨[4, 3, 0, 0, 0, 0, 0], []⟩) up = some (.refused 1 0x11 .badValue) ∧
    lastReply (.keyMask .L1 1 ⟨[4, 3, 0, 0, 0, 0, 0, 0, 0, 0], []⟩) up = some (.refused 1 0x12 .badValue) ∧
    lastReply (.keyCut .L1 1 ⟨[4, 3], []⟩) up = some (.refused 1 0x13 .badValue) := ⟨up_serves _, by decide⟩

theorem witness_UndefinedValues_rest :
    lastReply (.store .L1 1 [17, 1, 0, 0, 0, 0, 0]) up = some (.refused 1 0x18 .badValue) ∧
    lastReply (.recallEffects .L1 1 ⟨[1, 0, 0, 0, 0, 0, 0], []⟩) up = some (.refused 1 0x19 .badValue) ∧
    lastReply (.erase .L1 1 [0]) up = some (.refused 1 0x1A .badValue) ∧
    lastReply (.claim .L1 1 ⟨[8], []⟩) up = some (.refused 1 0x20 .badValue) ∧
    lastReply (.release .L1 1 ⟨[0, 8, 0], []⟩) up = some (.refused 1 0x21 .badValue) ∧
    lastReply (.walkMemory .L1 1 [2]) up = some (.refused 1 0x2B .badValue) ∧
    lastReply (.readCounters .L1 1 [5]) up = some (.refused 1 0x2D .badValue) ∧
    lastReply (.readLog .L1 1 [9]) up = some (.refused 1 0x2E .badValue) ∧
    lastReply (.setFormat .L1 1 ⟨[4], []⟩) up = some (.refused 1 0x30 .badValue) ∧
    lastReply (.setOutputRange .L1 1 ⟨[2], []⟩) up = some (.refused 1 0x31 .badValue) ∧
    lastReply (.setLink .L1 1 [5, 1, 0, 0, 0, 0, 0, 0, 0, 0, 0, 0, 1]) up = some (.refused 1 0x34 .badValue) ∧
    lastReply (.assignStatic .L1 1 [7, 0]) up = some (.refused 1 0x35 .badValue) ∧
    lastReply (.unassignStatic .L1 1 [8]) up = some (.refused 1 0x36 .badValue) ∧
    lastReply (.clearLog .L1 1 [9]) up = some (.refused 1 0x39 .badValue) := by decide

theorem witness_FaderReadings : (up.setup.phase = .running ∧ up.enabled .L1 = true) ∧
    (holding .trans (.static .L1)).holder .trans = some .L1 ∧ (holding .trans (.static .L1)).barredFrom .L1 .trans = false ∧
    (barring .trans).barredFrom .L1 .trans = true ∧ up.holder .trans = none ∧
    (holding .trans (.static .L2)).holder .trans = some .L2 ∧
    (12 ≤ (slotless.links.get .L1).slotsUsed ∧ slotless.holder .trans ≠ some .L1) := by decide

theorem witness_EffectsRegisters : up.Serves .L1 ∧ up.MayUse .L1 .memory ∧ PartSet.isEmpty ⟨true, false, .const false⟩ = false ∧
    ((barring .memory).Serves .L1 ∧ (barring .memory).barredFrom .L1 .memory = true) ∧
    ((holding .memory (.static .L2)).Serves .L1 ∧ (holding .memory (.static .L2)).holder .memory = some .L2) :=
  ⟨up_serves _, free_mayUse _ _, by decide, ⟨serves_barring _, rfl⟩, ⟨serves_holding _ _ _, rfl⟩⟩

theorem witness_RecallRestores : coldBank.Lawful .F0 ∧ (manual 370).recall .F0 ⟨true, true, .const true⟩
    (coldBank.capture ⟨true, true, .const true⟩) ≠ coldBank := ⟨cold_lawful, by decide⟩

/-- L3 alone has a rank above 0. -/
def outranked : State := { up with arbiter := { up.arbiter with attributes := coldArbiter.attributes.set .L3 { coldAttributes with rank := 2 } } }

/-- A pair of CLAIMs in which the second outranks the first, and one in which it does not. -/
theorem witness_Claims_together : outranked.LinksLaw ∧ (Link.code .L1).toNat < (Link.code .L3).toNat ∧
    (Link.code .L3).toNat < (Link.code .L4).toNat ∧ (∀ l, outranked.Serves l ∧ outranked.barredFrom l .trans = false) ∧
    outranked.arbiter.holdings.get .trans = .free ∧
    (outranked.arbiter.attributes.get .L1).rank < (outranked.arbiter.attributes.get .L3).rank ∧
    ¬ (outranked.arbiter.attributes.get .L3).rank < (outranked.arbiter.attributes.get .L4).rank := by
  refine ⟨⟨by decide, fun l => by cases l <;> rfl, fun l => by cases l <;> decide, fun l r => by cases l <;> cases r <;> decide,
    fun l => by cases l <;> trivial, fun l => by cases l <;> (unfold Counters.InRange; decide)⟩, by decide, by decide,
    fun l => by cases l <;> exact ⟨⟨rfl, rfl, by decide⟩, rfl⟩, rfl, by decide, by decide⟩

/-- Each outcome of a CLAIM of TRANS by L3 or by L1. -/
theorem witness_Claims : (up.Serves .L3 ∧ up.arbiter.holdings.get .trans = .free) ∧
    ((barring .trans).Serves .L1 ∧ (barring .trans).barredFrom .L1 .trans = true) ∧
    ((holding .trans (.acquired .L1 false)).Serves .L1 ∧ (holding .trans (.static .L1)).Serves .L3) ∧
    (contested.Serves .L3 ∧ contested.barredFrom .L3 .trans = false ∧ contested.arbiter.holdings.get .trans = .acquired .L1 true ∧
      (contested.arbiter.attributes.get .L1).rank < (contested.arbiter.attributes.get .L3).rank ∧
      (contested.arbiter.attributes.get .L2).rank ≤ (contested.arbiter.attributes.get .L1).rank) :=
  ⟨⟨up_serves _, rfl⟩, ⟨serves_barring _, rfl⟩, ⟨serves_holding _ _ _, serves_holding _ _ _⟩,
   ⟨⟨rfl, rfl, by decide⟩, rfl, rfl, by decide, by decide⟩⟩

theorem witness_Releases : up.Serves .L1 ∧ (∀ g, (up.actualSet .L1 .all).get g = false) ∧
    (holding .k3 (.acquired .L1 false)).Serves .L1 ∧
    ((holding .k3 (.acquired .L1 false)).actualSet .L1 .keyers).get .k3 = true :=
  ⟨up_serves _, fun g => by cases g <;> rfl, serves_holding _ _ _, by decide⟩

theorem witness_StaticAssignments : (up.Serves .L1 ∧ up.MayUse .L1 .setup ∧ up.barredFrom .L2 .trans = false ∧ up.setup.lock = false) ∧
    ((barring .trans).Serves .L1 ∧ (barring .trans).barredFrom .L1 .trans = true) ∧
    ((barring .setup).Serves .L1 ∧ (barring .setup).barredFrom .L1 .setup = true) ∧
    ((holding .setup (.static .L2)).Serves .L1 ∧ (holding .setup (.static .L2)).holder .setup = some .L2) ∧
    (lockedUp.Serves .L1 ∧ lockedUp.MayUse .L1 .setup ∧ lockedUp.setup.lock = true) ∧
    (holding .k1 (.static .L2)).arbiter.holdings.get .k1 = .static .L2 :=
  ⟨⟨up_serves _, free_mayUse _ _, rfl, rfl⟩, ⟨serves_barring _, rfl⟩, ⟨serves_barring _, rfl⟩,
   ⟨serves_holding _ _ _, rfl⟩, ⟨⟨rfl, rfl, by decide⟩, ⟨rfl, .inl rfl⟩, rfl⟩, rfl⟩

/-- A holding that a sweep ends. -/
theorem witness_Sweeps_expiry : ∃ g l, (holding .k1 (.acquired .L1 false)).arbiter.holdings.get g = .acquired l false := ⟨.k1, .L1, rfl⟩

/-- A sweep owed, a sweep that the coming boundary would bring, and none. -/
theorem witness_Sweeps : ({ up with arbiter := { up.arbiter with sweepMark := .owed } } : State).arbiter.sweepMark = .owed ∧
    (let a : Arbiter := { up.arbiter with sweepPeriod := 25, sweepCounter := 24 }
     a.sweepMark = .none ∧ 0 < a.sweepPeriod ∧ a.sweepPeriod ≤ a.sweepCounter + 1) ∧
    (up.arbiter.sweepMark = .none ∧ ¬ up.arbiter.sweepPeriod ≤ up.arbiter.sweepCounter + 1) := by decide

/-- A link that disables itself, a static holder barred, one disabled by another, and the lock. -/
theorem witness_LinkSettings : (up.Serves .L1 ∧ up.MayUse .L1 .setup ∧ up.setup.lock = false ∧ Link.L2 ≠ .L1 ∧
      (up.arbiter.attributes.get .L2).enabled = true ∧ (up.arbiter.attributes.get .L1).reports = true) ∧
    ((holding .k1 (.static .L2)).Serves .L1 ∧ (holding .k1 (.static .L2)).arbiter.holdings.get .k1 = .static .L2) ∧
    ((barring .setup).Serves .L1 ∧ (barring .setup).barredFrom .L1 .setup = true) ∧
    ((holding .setup (.static .L2)).Serves .L1 ∧ (holding .setup (.static .L2)).holder .setup = some .L2) ∧
    (lockedUp.Serves .L1 ∧ lockedUp.MayUse .L1 .setup ∧ lockedUp.setup.lock = true) :=
  ⟨⟨up_serves _, free_mayUse _ _, rfl, by decide, rfl, rfl⟩, ⟨serves_holding _ _ _, rfl⟩, ⟨serves_barring _, rfl⟩,
   ⟨serves_holding _ _ _, rfl⟩, ⟨rfl, rfl, by decide⟩, ⟨rfl, .inl rfl⟩, rfl⟩

/-- The settings of two keyer records whose values two bytes hold. -/
theorem witness_Queries_records : ∀ x ∈ [coldSettings, lumaKey],
    x.clip < 65536 ∧ x.gain < 65536 ∧ x.left < 65536 ∧ x.right < 65536 ∧ x.top < 65536 ∧ x.bottom < 65536 := by decide

/-- Record 1 filled, record 8 empty. -/
theorem witness_Queries : busy.Serves .L1 ∧ StackOrder busy.bank.stack ∧
    busy.log.records[0]? = some (some ⟨.L1, 0x0C, .badLength, none, 0, 1⟩) ∧ busy.log.records[7]? = some none :=
  ⟨⟨rfl, rfl, by decide⟩, List.Perm.refl _, by decide, by decide⟩

/-- The first register stored and none after it; no register; the last group held. -/
theorem witness_Walks : stored.Serves .L1 ∧ (stored.memory.registers.get .E1).isEmpty = false ∧
    (stored.memory.registers.get .E2).isEmpty = true ∧ (∀ r, (up.memory.registers.get r).isEmpty = true) ∧
    (holding .setup (.static .L1)).Serves .L1 ∧ (holding .setup (.static .L1)).arbiter.holdings.get .setup ≠ .free ∧
    (∀ g, up.arbiter.holdings.get g = .free) :=
  ⟨⟨rfl, rfl, by decide⟩, by decide, by decide, fun r => by cases r <;> rfl, serves_holding _ _ _, by decide,
   fun g => by cases g <;> rfl⟩

theorem witness_SetupRequests : (up.Serves .L1 ∧ up.MayUse .L1 .setup ∧ up.setup.lock = false) ∧
    ((barring .setup).Serves .L1 ∧ (barring .setup).barredFrom .L1 .setup = true) ∧
    ((holding .setup (.static .L2)).Serves .L1 ∧ (holding .setup (.static .L2)).barredFrom .L1 .setup = false ∧
      (holding .setup (.static .L2)).holder .setup = some .L2) ∧
    (lockedUp.Serves .L1 ∧ lockedUp.MayUse .L1 .setup ∧ lockedUp.setup.lock = true) ∧ (8 : Byte).toNat ≤ 8 :=
  ⟨⟨up_serves _, free_mayUse _ _, rfl⟩, ⟨serves_barring _, rfl⟩, ⟨serves_holding _ _ _, rfl, rfl⟩,
   ⟨⟨rfl, rfl, by decide⟩, ⟨rfl, .inl rfl⟩, rfl⟩, by decide⟩

theorem witness_Resets : (up.Serves .L1 ∧ up.MayUse .L1 .setup) ∧ ((barring .setup).Serves .L1 ∧ (barring .setup).barredFrom .L1 .setup = true) ∧
    ((holding .setup (.static .L2)).Serves .L1 ∧ (holding .setup (.static .L2)).holder .setup = some .L2) ∧
    (up.setup.coldLine = false ∧ up.setup.warmLine = false) ∧ coldHeld.setup.coldLine = true ∧
    coldHeld.setup.phase = .coldReset ∧ up.setup.phase ≠ .coldReset ∧ State.reset.setup.phase = .initialising true ∧
    (lockedTo 0).reference.state = .locked ∧
    (slotless.enabled .L1 = true ∧ slotless.MayUse .L1 .setup ∧ 12 ≤ (slotless.links.get .L1).slotsUsed ∧
      ({ slotless with arbiter := (barring .setup).arbiter } : State).barredFrom .L1 .setup = true) :=
  ⟨⟨up_serves _, free_mayUse _ _⟩, ⟨serves_barring _, rfl⟩, ⟨serves_holding _ _ _, rfl⟩, ⟨rfl, rfl⟩, rfl, rfl, by decide, rfl, rfl,
   ⟨rfl, ⟨rfl, .inl rfl⟩, by decide, rfl⟩⟩

theorem witness_InitialisationEnds : State.reset.RestartLaw ∧ State.reset.setup.phase = .initialising true ∧
    State.reset.takesReports .L1 = true := ⟨reset_restartLaw, rfl, rfl⟩

theorem witness_LinkEvents : (Kind.ofCode 0x50 = none ∧ up.Serves .L1) ∧
    ({ up with arbiter := { up.arbiter with attributes := .const { coldAttributes with enabled := false } } } : State).enabled .L1
      = false ∧ up.setup.phase = .running ∧ State.reset.setup.phase ≠ .running ∧
    (busy.links.get .L1).receiver ≠ .hunt ∧ (up.links.get .L1).receiver = .hunt ∧
    ((busy.links.get .L1).sending = none ∧ (busy.links.get .L1).transmit = [.done 0 1 [], .tally 0 clearTally]) ∧
    (up.links.get .L1).transmit = [] ∧
    ((portOf { freshPort with sending := some (.done 0 1 []) }).links.get .L1).sending = some (.done 0 1 []) :=
  ⟨⟨rfl, up_serves _⟩, rfl, rfl, by decide, by decide, rfl, ⟨rfl, rfl⟩, rfl, rfl⟩

/-- Each receiver state; LENGTH at 1, 2, 60 and 61; a body one byte short; a check that fails. -/
theorem witness_BytesReceived : State.reset.setup.phase ≠ .running ∧ up.setup.phase = .running ∧
    (up.links.get .L1).receiver = .hunt ∧ ((portOf { freshPort with receiver := .length }).links.get .L1).receiver = .length ∧
    (2 ≤ (2 : Byte).toNat ∧ (60 : Byte).toNat ≤ 60 ∧ (1 : Byte).toNat < 2 ∧ 60 < (61 : Byte).toNat) ∧
    (busy.links.get .L1).receiver = .body 2 [0x0C] ∧ [(0x0C : Byte)].length + 1 = 2 ∧ ([] : List Byte).length + 1 < 2 ∧
    ((portOf { freshPort with receiver := .check 2 [0x0C, 5] }).links.get .L1).receiver = .check 2 [0x0C, 5] ∧
    (2 + ([0x0C, 5].map (BitVec.toNat (w := 8))).sum + (0xEC : Byte).toNat) % 256 ≠ 0 := by decide

theorem witness_FrameReceived : up.setup.phase = .running ∧ (up.links.get .L1).receiver = .hunt ∧
    (List.replicate 58 (0 : Byte)).length ≤ 58 ∧ Kind.ofCode 0x50 = none := by decide

def waiting (policy : RephasePolicy) (b : Bank) (missing : Nat) : State :=
  { withBank b with reference := { up.reference with
      state := .rephaseWait, missingCount := missing, policy := policy, expected := some 5400000 } }

/-- Every reference state, pulses at the edge of the window and just outside it, in phase and out of phase. -/
theorem witness_ReferenceEvents : up.setup.phase ≠ .coldReset ∧ up.reference.Lawful ∧ (acquired 7).reference.Lawful ∧
    (waiting .atIdle (manual 370) 2).reference.Lawful ∧ (lockedTo 2).reference.Lawful ∧
    (1000 * 10810800 ≤ 1000 * 10800000 + 10800000 ∧ ¬ 1000 * 10810801 ≤ 1000 * 10800000 + 10800000) ∧
    ((10800000 - 10790400) * 1125 ≤ 10800000 ∧ ¬ (10800000 - 10790399) * 1125 ≤ 10800000) ∧
    (waiting .atIdle (manual 370) 2).bank.state ≠ .idle ∧ (waiting .atIdle coldBank 0).bank.state = .idle ∧
    ¬ (10800000 - 5400000) * 1125 ≤ 10800000 := by
  refine ⟨by decide, ⟨rfl, rfl, rfl⟩, ⟨by decide, by decide, rfl, rfl⟩, ⟨rfl, by decide, rfl⟩, ⟨rfl, by decide, rfl⟩, ?_⟩
  decide

end Sys2Proof.Tests
end

section
/-! What any command does between boundaries: the frame of the bank, and the ranges kept. -/

namespace Sys2Proof.Machine

/-- What a command outside a boundary and a cold reset may do: of the bank and of what the outputs, the tally and the reports read
it changes no more than the reading, F valid and the live flag of the fader, makes no fader live, and keeps the ranges. -/
structure State.Between (s t : State) : Prop where
  bank : t.bank = { s.bank with fader := { s.bank.fader with
    reading := t.bank.fader.reading, valid := t.bank.fader.valid, live := t.bank.fader.live } }
  live : t.bank.fader.live = true → s.bank.fader.live = true
  reading : s.bank.fader.reading ≤ 4095 → t.bank.fader.reading ≤ 4095
  status : t.ports.status = s.ports.status
  compositor : t.compositor = s.compositor
  tally : t.tally = s.tally
  reported : t.reported = s.reported
  settled : t.settled = s.settled
  frameCount : t.reference.frameCount = s.reference.frameCount
  format : t.reference.format = s.reference.format
  law : s.BankLaw → t.BankLaw

namespace State.Between

theorem refl (s : State) : s.Between s :=
  ⟨rfl, id, id, rfl, rfl, rfl, rfl, rfl, rfl, rfl, id⟩

theorem trans {s t u : State} (a : s.Between t) (b : t.Between u) : s.Between u where
  bank := by rw [b.bank, a.bank]
  live h := a.live (b.live h)
  reading h := b.reading (a.reading h)
  status := b.status.trans a.status
  compositor := b.compositor.trans a.compositor
  tally := b.tally.trans a.tally
  reported := b.reported.trans a.reported
  settled := b.settled.trans a.settled
  frameCount := b.frameCount.trans a.frameCount
  format := b.format.trans a.format
  law h := b.law (a.law h)

/-- A row of works, each of which keeps to the frame. -/
theorem foldl {α : Type} {f : State → α → State} (h : ∀ (s : State) a, s.Between (f s a)) (as : List α) :
    ∀ s : State, s.Between (as.foldl f s) := by
  induction as with
  | nil => exact refl
  | cons a as ih => exact fun s => (h s a).trans (ih _)

end State.Between

variable (s : State)

/-! The updates of single blocks. -/

/-- Updates of the other blocks that leave the registers, the frame count and the format alone, and lengthen no queue. -/
theorem State.between_update (lost : PerInput (List (Nat × Nat))) (queue : List Entry) (memory : EffectsMemory) (arbiter : Arbiter)
    (reference : ReferenceUnit) (links : PerLink LinkPort) (setup : SetupUnit) (log : RefusalLog) (pending : List Instr)
    (entries : ∀ e ∈ queue, e ∈ s.queue) (registers : memory.registers = s.memory.registers)
    (frameCount : reference.frameCount = s.reference.frameCount) (format : reference.format = s.reference.format) :
    s.Between { s with ports := { s.ports with lost := lost }, queue := queue, memory := memory, arbiter := arbiter,
                       reference := reference, links := links, setup := setup, log := log, pending := pending } where
  bank := rfl
  live := id
  reading := id
  status := rfl
  compositor := rfl
  tally := rfl
  reported := rfl
  settled := rfl
  frameCount := frameCount
  format := format
  law h :=
    { bank := by rw [show _ = s.reference.format from format]; exact h.bank
      registers := by rw [show _ = s.memory.registers from registers]; exact h.registers
      entries := fun e he => h.entries e (entries e he) }

theorem State.between_setLinks (v : PerLink LinkPort) : s.Between (s.setLinks v) :=
  s.between_update _ _ _ _ _ _ _ _ _ (fun _ h => h) rfl rfl rfl

theorem State.between_modifyLink (l : Link) (f : LinkPort → LinkPort) : s.Between (s.modifyLink l f) :=
  s.between_setLinks _

theorem State.between_setLog (v : RefusalLog) : s.Between (s.setLog v) :=
  s.between_update _ _ _ _ _ _ _ _ _ (fun _ h => h) rfl rfl rfl

theorem State.between_setSetup (v : SetupUnit) : s.Between (s.setSetup v) :=
  s.between_update _ _ _ _ _ _ _ _ _ (fun _ h => h) rfl rfl rfl

theorem State.between_setArbiter (v : Arbiter) : s.Between (s.setArbiter v) :=
  s.between_update _ _ _ _ _ _ _ _ _ (fun _ h => h) rfl rfl rfl

theorem State.between_setReference (v : ReferenceUnit) (frameCount : v.frameCount = s.reference.frameCount)
    (format : v.format = s.reference.format) : s.Between (s.setReference v) :=
  s.between_update _ _ _ _ _ _ _ _ _ (fun _ h => h) rfl frameCount format

theorem State.between_setQueue (v : List Entry) (entries : ∀ e ∈ v, e ∈ s.queue) : s.Between (s.setQueue v) :=
  s.between_update _ _ _ _ _ _ _ _ _ entries rfl rfl rfl

theorem State.between_setWalk (v : PerLink (Cursor Register)) : s.Between (s.setMemory { s.memory with walk := v }) :=
  s.between_update _ _ _ _ _ _ _ _ _ (fun _ h => h) rfl rfl rfl

theorem State.between_setLost (v : PerInput (List (Nat × Nat))) : s.Between (s.setPorts { s.ports with lost := v }) :=
  s.between_update _ _ _ _ _ _ _ _ _ (fun _ h => h) rfl rfl rfl

/-- The fader record with another reading, another F valid and another live flag. -/
theorem State.between_setFader (reading : Nat) (valid live : Bool)
    (range : s.bank.fader.reading ≤ 4095 → reading ≤ 4095) (off : live = true → s.bank.fader.live = true) :
    s.Between (s.setFader { s.bank.fader with reading := reading, valid := valid, live := live }) where
  bank := rfl
  live := off
  reading := range
  status := rfl
  compositor := rfl
  tally := rfl
  reported := rfl
  settled := rfl
  frameCount := rfl
  format := rfl
  law h :=
    { bank := { h.bank with fader := ⟨range h.bank.fader.1, h.bank.fader.2⟩ }
      registers := h.registers
      entries := h.entries }

/-- An effects register takes contents that the laws of the bank make lawful. -/
theorem State.between_setRegister (r : Register) (e : Effects) (lawful : s.BankLaw → e.Lawful) :
    s.Between (s.setRegister r e) where
  bank := rfl
  live := id
  reading := id
  status := rfl
  compositor := rfl
  tally := rfl
  reported := rfl
  settled := rfl
  frameCount := rfl
  format := rfl
  law h :=
    { bank := h.bank
      registers := fun x => by
        simp only [State.setRegister, State.setMemory_memory, PerRegister.get_set]
        split
        · exact lawful h
        · exact h.registers x
      entries := h.entries }

/-- An entry that records values in range joins the queue. -/
theorem State.between_enqueue (e : Entry) (lawful : e.action.Lawful) : s.Between (s.setQueue (s.queue ++ [e])) where
  bank := rfl
  live := id
  reading := id
  status := rfl
  compositor := rfl
  tally := rfl
  reported := rfl
  settled := rfl
  frameCount := rfl
  format := rfl
  law h :=
    { bank := h.bank
      registers := h.registers
      entries := fun x hx => by
        rcases List.mem_append.1 hx with hx | hx
        · exact h.entries x hx
        · rw [List.mem_singleton.1 hx]; exact lawful }

/-! Posting, answering and the checks. -/

theorem State.between_postWhere (want : Link → Bool) (m : Message) : s.Between (s.postWhere want m) := by
  unfold State.postWhere
  split
  · exact s.between_setLinks _
  · exact .refl s

theorem State.between_refuse (l : Link) (tag kind : Byte) (reason : Reason) (g : Option Group) :
    s.Between (s.refuse l tag kind reason g) :=
  (s.between_modifyLink l _).trans (State.between_setLog _ _)

theorem State.between_answer (l : Link) (tag : Byte) (k : Kind) (data : List Byte) : s.Between (s.answer l tag k data) :=
  s.between_modifyLink l _

theorem State.between_withReplySlot (l : Link) {handle : State → State} (h : ∀ t : State, t.Between (handle t)) :
    s.Between (s.withReplySlot l handle) := by
  unfold State.withReplySlot
  split
  · exact s.between_modifyLink l _
  · exact (s.between_modifyLink l _).trans (h _)

theorem State.between_refuseUnreserved (l : Link) (tag kind : Byte) (reason : Reason) (g : Option Group) :
    s.Between (s.refuseUnreserved l tag kind reason g) :=
  s.between_withReplySlot l fun t => t.between_refuse l tag kind reason g

theorem State.between_onGoodFrame (l : Link) {handle : State → State} (h : ∀ t : State, t.Between (handle t)) :
    s.Between (s.onGoodFrame l handle) := by
  unfold State.onGoodFrame
  dsimp only
  split
  · split
    · exact (s.between_modifyLink l _).trans (h _)
    · exact s.between_modifyLink l _
  · exact .refl s

theorem State.between_touch (l : Link) (g : Group) : s.Between (s.touch l g) := by
  unfold State.touch
  split
  · exact s.between_setArbiter _
  · exact .refl s

theorem State.between_touchEntry (l : Link) (g : Option Group) : s.Between (s.touchEntry l g) := by
  cases g with
  | none => exact .refl s
  | some g => exact s.between_touch l g

theorem State.between_admission (l : Link) (tag : Byte) {a : Action} (lawful : a.Lawful) : s.Between (s.admission l tag a) := by
  unfold State.admission
  split
  · exact s.between_refuse _ _ _ _ _
  · split_ifs
    · exact s.between_refuse _ _ _ _ _
    · exact s.between_refuse _ _ _ _ _
    · exact (s.between_enqueue ⟨l, tag, a⟩ lawful).trans (State.between_touchEntry _ _ _)

theorem State.between_immediate {α : Type} (k : Kind) (l : Link) (tag : Byte) (ps : List Byte) (known : Option Group)
    {read : List Byte → Option α} (valid : α → State → Bool) {run : α → State → State}
    (h : ∀ a, read ps = some a → ∀ t : State, t.Between (run a t)) :
    s.Between (s.immediate k l tag ps known read valid run) := by
  refine s.between_withReplySlot l fun t => ?_
  unfold State.checked
  split
  · split
    · exact t.between_refuse _ _ _ _ _
    · next a ha =>
      split
      · exact h a ha t
      · exact t.between_refuse _ _ _ _ _
  · exact t.between_refuse _ _ _ _ _

theorem State.between_queued (k : Kind) (l : Link) (tag : Byte) (ps : List Byte) (known : Option Group)
    {read : List Byte → Option Action} (h : ∀ a, read ps = some a → a.Lawful) :
    s.Between (s.queued k l tag ps known read) :=
  s.between_immediate k l tag ps known anyValue fun a ha t => t.between_admission l tag (h a ha)

theorem State.between_groupChecked (k : Kind) (l : Link) (tag : Byte) (g : Group) (lockable : Bool) {run : State → State}
    (h : ∀ t : State, t.Between (run t)) : s.Between (s.groupChecked k l tag g lockable run) := by
  unfold State.groupChecked
  split
  · exact s.between_refuse _ _ _ _ _
  · split
    · exact s.between_refuse _ _ _ _ _
    · exact h s

theorem State.between_immediateGroup {α : Type} (k : Kind) (l : Link) (tag : Byte) (ps : List Byte) (g : Group) (lockable : Bool)
    (read : List Byte → Option α) (valid : α → State → Bool) {run : α → State → State} (data : α → State → List Byte)
    (h : ∀ a (t : State), t.Between (run a t)) :
    s.Between (s.immediateGroup k l tag ps g lockable read valid run data) :=
  s.between_immediate k l tag ps _ valid fun a _ t => t.between_groupChecked k l tag g lockable fun u =>
    (h a u).trans ((State.between_touch _ _ _).trans (State.between_answer _ _ _ _ _))

/-! Changes of the holdings table and of the reference unit. -/

theorem State.between_moveHoldings (new : PerGroup Holding) (also : Entry → Bool) : s.Between (s.moveHoldings new also) := by
  obtain ⟨moved, -⟩ := s.moveHoldings_eq new also
  rw [moved]
  split
  · exact s.between_update _ _ _ _ _ _ _ _ _ (fun _ h => List.mem_of_mem_filter h) rfl rfl rfl
  · exact (s.between_setFader s.bank.fader.reading false false id (fun h => nomatch h)).trans
      (State.between_update _ _ _ _ _ _ _ _ _ _ (fun _ h => List.mem_of_mem_filter h) rfl rfl rfl)

theorem State.between_reportHoldings (old : PerGroup Holding) (f : FrameCount) : s.Between (s.reportHoldings old f) := by
  unfold State.reportHoldings
  split
  · exact .refl s
  · exact s.between_postWhere _ _

theorem State.between_changeHoldings (new : PerGroup Holding) : s.Between (s.changeHoldings new) :=
  (s.between_moveHoldings new noEntry).trans (State.between_reportHoldings _ _ _)

theorem State.between_updateReference (u : ReferenceUnit) (frameCount : u.frameCount = s.reference.frameCount)
    (format : u.format = s.reference.format) : s.Between (s.updateReference u) := by
  unfold State.updateReference
  dsimp only
  split
  · exact s.between_setReference u frameCount format
  · exact (s.between_setReference u frameCount format).trans (State.between_postWhere _ _ _)

end Sys2Proof.Machine
end

section
/-! The values a request records are in range, and every command but a boundary and a cold reset keeps to the frame. -/

namespace Sys2Proof.Machine

/-! What the readers of the queued kinds let through (R86). -/

theorem clampNat_between (v : Nat) {lo hi : Nat} (h : lo ≤ hi) : lo ≤ clampNat v lo hi ∧ clampNat v lo hi ≤ hi := by
  rw [clampNat_eq v lo hi h]
  omega

/-- What a reader answers, if anything, is in range. -/
def ReadsLawful (o : Option Action) : Prop := ∀ a, o = some a → a.Lawful

theorem readsLawful_none : ReadsLawful none := fun _ h => nomatch h

theorem readsLawful_some {a : Action} (h : a.Lawful) : ReadsLawful (some a) := fun _ e => Option.some.inj e ▸ h

theorem readsLawful_bind {α : Type} {o : Option α} {f : α → Option Action} (h : ∀ x, ReadsLawful (f x)) :
    ReadsLawful (o >>= f) := by
  cases o with
  | none => exact readsLawful_none
  | some x => exact h x

theorem readsLawful_map {α : Type} {o : Option α} {f : α → Action} (h : ∀ x, o = some x → (f x).Lawful) :
    ReadsLawful (o.map f) := by
  cases o with
  | none => exact readsLawful_none
  | some x => exact readsLawful_some (h x rfl)

theorem readSelect_lawful (ps : List Byte) : ReadsLawful (readSelect ps) := by
  unfold readSelect
  split
  · exact readsLawful_bind fun _ => readsLawful_bind fun _ => readsLawful_some trivial
  · exact readsLawful_none

theorem readMatte_lawful (ps : List Byte) : ReadsLawful (readMatte ps) := by
  unfold readMatte
  split
  · next y1 y0 b1 b0 r1 r0 =>
    obtain ⟨y, y'⟩ := clampNat_between (number y1 y0) (show 64 ≤ 940 by decide)
    obtain ⟨b, b'⟩ := clampNat_between (number b1 b0) (show 64 ≤ 960 by decide)
    obtain ⟨r, r'⟩ := clampNat_between (number r1 r0) (show 64 ≤ 960 by decide)
    exact readsLawful_some ⟨y, y', b, b', r, r'⟩
  · exact readsLawful_none

theorem elementSetOf_nonempty {b b1 b2 b3 b4 : Byte} {m : ElementSet} (h : elementSetOf b b1 b2 b3 b4 = some m) :
    m.Nonempty := by
  simp only [elementSetOf, Option.bind_eq_bind, Option.bind_eq_some_iff] at h
  obtain ⟨f, -, f1, -, f2, -, f3, -, f4, -, h⟩ := h
  split at h
  · next any =>
    obtain rfl := Option.some.inj h
    simp only [Bool.or_eq_true] at any
    rcases any with (((hb | h1) | h2) | h3) | h4
    · exact .inl hb
    · exact .inr ⟨.K1, h1⟩
    · exact .inr ⟨.K2, h2⟩
    · exact .inr ⟨.K3, h3⟩
    · exact .inr ⟨.K4, h4⟩
  · exact nomatch h

theorem readNextSet_lawful (ps : List Byte) : ReadsLawful (readNextSet ps) := by
  unfold readNextSet
  split
  · exact readsLawful_map fun _ => elementSetOf_nonempty
  · exact readsLawful_none

theorem readTransitionSetup_lawful (ps : List Byte) : ReadsLawful (readTransitionSetup ps) := by
  unfold readTransitionSetup
  split
  · next type pattern e1 e0 d1 d0 reverse flipFlop =>
    have softness := clampNat_between (number e1 e0) (show 0 ≤ 256 by decide)
    have rate := clampNat_between (number d1 d0) (show 1 ≤ 999 by decide)
    exact readsLawful_bind fun _ => readsLawful_bind fun _ => readsLawful_bind fun _ => readsLawful_bind fun _ =>
      readsLawful_some ⟨softness.2, rate⟩
  · exact readsLawful_none

theorem readFaderSetup_lawful (ps : List Byte) : ReadsLawful (readFaderSetup ps) := by
  unfold readFaderSetup
  split
  · next l1 l0 u1 u0 w1 w0 =>
    have lower := clampNat_between (number l1 l0) (show 0 ≤ 1023 by decide)
    have upper := clampNat_between (number u1 u0) (show 3072 ≤ 4095 by decide)
    have weight := clampNat_between (number w1 w0) (show 1 ≤ 16 by decide)
    exact readsLawful_some ⟨lower.2, upper.1, upper.2, weight⟩
  · exact readsLawful_none

theorem readAuto_lawful (ps : List Byte) : ReadsLawful (readAuto ps) := by
  unfold readAuto
  split
  · exact readsLawful_some trivial
  · exact readsLawful_none

theorem readCut_lawful (ps : List Byte) : ReadsLawful (readCut ps) := by
  unfold readCut
  split
  · exact readsLawful_some trivial
  · exact readsLawful_none

/-- Four keyers, each listed once, are the four there are (R46). -/
theorem stackOrder_of_nodup (i j k l : Keyer) (h : [i, j, k, l].Nodup) : StackOrder [i, j, k, l] :=
  (List.subperm_of_subset h fun x _ => Keyer.mem_all x).perm_of_length_le le_rfl

theorem readKeyOrder_lawful (ps : List Byte) : ReadsLawful (readKeyOrder ps) := by
  unfold readKeyOrder
  split
  · refine readsLawful_bind fun i => readsLawful_bind fun j => readsLawful_bind fun k => readsLawful_bind fun l => ?_
    split
    · next distinct => exact readsLawful_some (stackOrder_of_nodup i j k l distinct)
    · exact readsLawful_none
  · exact readsLawful_none

theorem readKeySelect_lawful (ps : List Byte) : ReadsLawful (readKeySelect ps) := by
  unfold readKeySelect
  split
  · exact readsLawful_bind fun _ => readsLawful_bind fun _ => readsLawful_bind fun _ => readsLawful_some trivial
  · exact readsLawful_none

theorem readKeySetup_lawful (ps : List Byte) : ReadsLawful (readKeySetup ps) := by
  unfold readKeySetup
  split
  · next keyer mode c1 c0 g1 g0 invert =>
    have clip := clampNat_between (number c1 c0) (show 0 ≤ 1023 by decide)
    have gain := clampNat_between (number g1 g0) (show 0 ≤ 16383 by decide)
    exact readsLawful_bind fun _ => readsLawful_bind fun _ => readsLawful_bind fun _ =>
      readsLawful_some ⟨clip.2, gain.2⟩
  · exact readsLawful_none

theorem readKeyMask_lawful (ps : List Byte) : ReadsLawful (readKeyMask ps) := by
  unfold readKeyMask
  split
  · exact readsLawful_bind fun _ => readsLawful_bind fun _ => readsLawful_some trivial
  · exact readsLawful_none

theorem readKeyCut_lawful (ps : List Byte) : ReadsLawful (readKeyCut ps) := by
  unfold readKeyCut
  split
  · exact readsLawful_bind fun _ => readsLawful_bind fun _ => readsLawful_some trivial
  · exact readsLawful_none

theorem readRecall_lawful (ps : List Byte) : ReadsLawful (readRecall ps) := readsLawful_map fun _ _ => trivial

theorem readSetFormat_lawful (ps : List Byte) : ReadsLawful (readSetFormat ps) := readsLawful_map fun _ _ => trivial

theorem readSetOutputRange_lawful (ps : List Byte) : ReadsLawful (readSetOutputRange ps) :=
  readsLawful_map fun _ _ => trivial

/-- A reading taken from a FADER lies in its range (R73). -/
theorem readFader_range {ps : List Byte} {reading : Nat} (h : readFader ps = some reading) : reading ≤ 4095 := by
  unfold readFader at h
  split at h
  · exact Option.some.inj h ▸ (clampNat_between _ (by decide)).2
  · exact nomatch h

/-! What STORE captures (R126). -/

/-- A register that captures a lawful bank is lawful. -/
theorem Bank.capture_lawful {b : Bank} {f : Format} (h : b.Lawful f) (p : PartSet) : (b.capture p).Lawful := by
  refine ⟨fun part hp => ?_, fun k part hp => ?_⟩
  · simp only [Bank.capture] at hp
    split at hp
    · obtain rfl := Option.some.inj hp
      exact ⟨h.nextSet, h.setup, h.stack⟩
    · exact nomatch hp
  · simp only [Bank.capture, PerKeyer.get_ofFn] at hp
    split at hp
    · obtain rfl := Option.some.inj hp
      exact h.settings k
    · exact nomatch hp

theorem emptyEffects_lawful : emptyEffects.Lawful :=
  ⟨(fun _ hp => nomatch hp), fun k _ hp => by simp [emptyEffects] at hp⟩

variable (s : State)

/-! Requests carried out at their arrival. -/

theorem State.between_takeFader (l : Link) (tag : Byte) (ps : List Byte) : s.Between (s.takeFader l tag ps) := by
  unfold State.takeFader
  split
  · split
    · exact s.between_refuseUnreserved _ _ _ _ _
    · next reading hr =>
      split
      · exact s.between_refuseUnreserved _ _ _ _ _
      · split
        · exact s.between_refuseUnreserved _ _ _ _ _
        · split
          · exact (s.between_setFader reading true s.bank.fader.live (fun _ => readFader_range hr) id).trans (State.between_touch _ _ _)
          · exact s.between_refuseUnreserved _ _ _ _ _
  · exact s.between_refuseUnreserved _ _ _ _ _

theorem State.between_takeStore (l : Link) (tag : Byte) (ps : List Byte) : s.Between (s.takeStore l tag ps) :=
  s.between_immediateGroup _ _ _ _ _ _ _ _ _ fun (_, p) t => t.between_setRegister _ _ fun h => Bank.capture_lawful h.bank p

theorem State.between_takeErase (l : Link) (tag : Byte) (ps : List Byte) : s.Between (s.takeErase l tag ps) :=
  s.between_immediateGroup _ _ _ _ _ _ _ _ _ fun _ t => t.between_setRegister _ _ fun _ => emptyEffects_lawful

theorem State.between_carryOutClaim {change : State → PerGroup Holding → State} (h : ∀ (t : State) new, t.Between (change t new))
    (l : Link) (tag : Byte) (g : Group) : s.Between (s.carryOutClaim change l tag g) := by
  unfold State.carryOutClaim
  split
  · exact s.between_refuse _ _ _ _ _
  · split
    · exact s.between_refuse _ _ _ _ _
    · exact (h s _).trans (State.between_answer _ _ _ _ _)

theorem State.between_takeClaim {change : State → PerGroup Holding → State} (h : ∀ (t : State) new, t.Between (change t new))
    (l : Link) (tag : Byte) (ps : List Byte) : s.Between (s.takeClaim change l tag ps) :=
  s.between_immediate _ _ _ _ _ _ fun g _ t => t.between_carryOutClaim h l tag g

theorem State.between_hearClaims (frames : List ClaimFrame) : s.Between (s.hearClaims frames) := by
  have row := State.Between.foldl (f := fun t f => State.hearClaim t State.replaceHoldings f)
    (fun t f => t.between_onGoodFrame f.link fun u => u.between_takeClaim (fun v new => v.between_moveHoldings new _) _ _ _)
    (byLink ClaimFrame.link frames) s
  exact row.trans (State.between_reportHoldings _ _ _)

theorem State.between_carryOutRelease (l : Link) (tag : Byte) (scope : ReleaseScope) :
    s.Between (s.carryOutRelease l tag scope) := by
  unfold State.carryOutRelease
  dsimp only
  split
  · exact s.between_refuse _ _ _ _ _
  · exact (s.between_changeHoldings _).trans (State.between_answer _ _ _ _ _)

theorem State.between_takeRelease (l : Link) (tag : Byte) (ps : List Byte) : s.Between (s.takeRelease l tag ps) :=
  s.between_immediate _ _ _ _ _ _ fun (scope, drain) _ t => by
    dsimp only
    split
    · exact t.between_admission l tag (a := .release scope) trivial
    · exact t.between_carryOutRelease l tag scope

theorem State.between_takeAssignStatic (l : Link) (tag : Byte) (ps : List Byte) : s.Between (s.takeAssignStatic l tag ps) :=
  s.between_immediateGroup _ _ _ _ _ _ _ _ _ fun _ t => t.between_changeHoldings _

theorem State.between_takeUnassignStatic (l : Link) (tag : Byte) (ps : List Byte) : s.Between (s.takeUnassignStatic l tag ps) :=
  s.between_immediate _ _ _ _ _ _ fun g _ t => t.between_groupChecked _ _ _ _ _ fun u => by
    unfold State.carryOutUnassign
    split
    · exact (u.between_changeHoldings _).trans ((State.between_touch _ _ _).trans (State.between_answer _ _ _ _ _))
    · exact u.between_refuse _ _ _ _ _
    · exact u.between_refuse _ _ _ _ _

theorem State.between_takeSetAging (l : Link) (tag : Byte) (ps : List Byte) : s.Between (s.takeSetAging l tag ps) :=
  s.between_immediateGroup _ _ _ _ _ _ _ _ _ fun _ t => t.between_setArbiter _

/-! SET LINK (R119). -/

theorem State.between_setBarred (l : Link) (new : PerGroup Bool) : s.Between (s.setBarred l new) :=
  (s.between_setArbiter _).trans (State.between_moveHoldings _ _ _)

theorem State.between_setEnabled (l : Link) (on : Bool) : s.Between (s.setEnabled l on) := by
  unfold State.setEnabled
  dsimp only
  split
  · exact (s.between_setArbiter _).trans ((State.between_moveHoldings _ _ _).trans (State.between_modifyLink _ _ _))
  · exact s.between_setArbiter _

theorem State.between_setRank (l : Link) (rank : Nat) : s.Between (s.setRank l rank) :=
  s.between_setArbiter _

theorem State.between_setReports (l : Link) (on : Bool) : s.Between (s.setReports l on) := by
  unfold State.setReports
  dsimp only
  split
  · exact (s.between_setArbiter _).trans (State.between_modifyLink _ _ _)
  · exact s.between_setArbiter _

theorem State.between_changeLink (l : Link) (a : LinkAttributes) : s.Between (s.changeLink l a) := by
  have moved := (s.between_setBarred l a.barred).trans <| (State.between_setEnabled _ l a.enabled).trans <|
    (State.between_setRank _ l a.rank).trans (State.between_setReports _ l a.reports)
  have told := moved.trans (State.between_reportHoldings _ s.arbiter.holdings s.reference.frameCount)
  unfold State.changeLink
  dsimp only
  split
  · exact told.trans ((State.between_setArbiter _ _).trans (State.between_postWhere _ _ _))
  · exact told

theorem State.between_takeSetLink (l : Link) (tag : Byte) (ps : List Byte) : s.Between (s.takeSetLink l tag ps) :=
  s.between_immediateGroup _ _ _ _ _ _ _ _ _ fun (m, a) t => t.between_changeLink m a

/-! Walks, queries and the setup requests. -/

theorem State.between_takeWalkMemory (l : Link) (tag : Byte) (ps : List Byte) : s.Between (s.takeWalkMemory l tag ps) :=
  s.between_immediate _ _ _ _ _ _ fun _ _ t => (t.between_setWalk _).trans (State.between_answer _ _ _ _ _)

theorem State.between_takeWalkHoldings (l : Link) (tag : Byte) (ps : List Byte) : s.Between (s.takeWalkHoldings l tag ps) :=
  s.between_immediate _ _ _ _ _ _ fun _ _ t => (t.between_setArbiter _).trans (State.between_answer _ _ _ _ _)

theorem State.between_takeQueryBank (l : Link) (tag : Byte) (ps : List Byte) : s.Between (s.takeQueryBank l tag ps) :=
  s.between_immediate _ _ _ _ _ _ fun _ _ t => t.between_answer _ _ _ _

theorem State.between_takeQueryTally (l : Link) (tag : Byte) (ps : List Byte) : s.Between (s.takeQueryTally l tag ps) :=
  s.between_immediate _ _ _ _ _ _ fun _ _ t => t.between_answer _ _ _ _

theorem State.between_takeQueryStatus (l : Link) (tag : Byte) (ps : List Byte) : s.Between (s.takeQueryStatus l tag ps) :=
  s.between_immediate _ _ _ _ _ _ fun _ _ t => t.between_answer _ _ _ _

theorem State.between_takeReadCounters (l : Link) (tag : Byte) (ps : List Byte) : s.Between (s.takeReadCounters l tag ps) :=
  s.between_immediate _ _ _ _ _ _ fun _ _ t => (t.between_modifyLink _ _).trans (State.between_answer _ _ _ _ _)

theorem State.between_takeReadLog (l : Link) (tag : Byte) (ps : List Byte) : s.Between (s.takeReadLog l tag ps) :=
  s.between_immediate _ _ _ _ _ _ fun _ _ t => t.between_answer _ _ _ _

theorem State.between_takeSetRephase (l : Link) (tag : Byte) (ps : List Byte) : s.Between (s.takeSetRephase l tag ps) :=
  s.between_immediateGroup _ _ _ _ _ _ _ _ _ fun _ t => t.between_setReference _ rfl rfl

theorem State.between_takeClearReferenceFlag (l : Link) (tag : Byte) (ps : List Byte) :
    s.Between (s.takeClearReferenceFlag l tag ps) :=
  s.between_immediateGroup _ _ _ _ _ _ _ _ _ fun _ t => t.between_updateReference _ rfl rfl

theorem State.between_takeLockSetup (l : Link) (tag : Byte) (ps : List Byte) : s.Between (s.takeLockSetup l tag ps) :=
  s.between_immediateGroup _ _ _ _ _ _ _ _ _ fun _ t => by
    unfold State.setLock
    split
    · exact .refl t
    · exact (t.between_setSetup _).trans (State.between_postWhere _ _ _)

theorem State.between_takeClearLog (l : Link) (tag : Byte) (ps : List Byte) : s.Between (s.takeClearLog l tag ps) :=
  s.between_immediateGroup _ _ _ _ _ _ _ _ _ fun _ t => t.between_setLog _

/-! Warm resets (R163). -/

theorem State.between_warmFader (trans : Holding) : s.Between (s.setFader (s.bank.fader.warm trans)) := by
  cases trans with
  | static _ => exact s.between_setFader s.bank.fader.reading s.bank.fader.valid false id (fun h => nomatch h)
  | free => exact s.between_setFader s.bank.fader.reading false false id (fun h => nomatch h)
  | acquired _ _ => exact s.between_setFader s.bank.fader.reading false false id (fun h => nomatch h)

theorem State.between_warmRestart : s.Between s.warmRestart :=
  (s.between_setLinks _).trans <| (State.between_setQueue _ [] (fun _ h => nomatch h)).trans <|
    (State.between_warmFader _ (s.arbiter.holdings.get .trans)).trans <|
    (State.between_setArbiter _ _).trans (State.between_setWalk _ _)

theorem State.between_takeWarmReset (l : Link) (tag : Byte) (ps : List Byte) : s.Between (s.takeWarmReset l tag ps) := by
  unfold State.takeWarmReset
  split
  · split
    · exact s.between_refuseUnreserved _ _ _ _ _
    · exact s.between_warmRestart.trans (State.between_setSetup _ _)
  · exact s.between_refuseUnreserved _ _ _ _ _

/-! A good frame of any kind. -/

/-- The request of any defined kind. -/
theorem State.between_takeKind (l : Link) (k : Kind) (tag : Byte) (ps : List Byte) : s.Between (s.takeKind l k tag ps) := by
  cases k with
  | select => exact s.between_queued _ _ _ _ _ (readSelect_lawful ps)
  | matte => exact s.between_queued _ _ _ _ _ (readMatte_lawful ps)
  | nextSet => exact s.between_queued _ _ _ _ _ (readNextSet_lawful ps)
  | transitionSetup => exact s.between_queued _ _ _ _ _ (readTransitionSetup_lawful ps)
  | faderSetup => exact s.between_queued _ _ _ _ _ (readFaderSetup_lawful ps)
  | auto => exact s.between_queued _ _ _ _ _ (readAuto_lawful ps)
  | cut => exact s.between_queued _ _ _ _ _ (readCut_lawful ps)
  | fader => exact s.between_takeFader l tag ps
  | keyOrder => exact s.between_queued _ _ _ _ _ (readKeyOrder_lawful ps)
  | keySelect => exact s.between_queued _ _ _ _ _ (readKeySelect_lawful ps)
  | keySetup => exact s.between_queued _ _ _ _ _ (readKeySetup_lawful ps)
  | keyMask => exact s.between_queued _ _ _ _ _ (readKeyMask_lawful ps)
  | keyCut => exact s.between_queued _ _ _ _ _ (readKeyCut_lawful ps)
  | store => exact s.between_takeStore l tag ps
  | recallEffects => exact s.between_queued _ _ _ _ _ (readRecall_lawful ps)
  | erase => exact s.between_takeErase l tag ps
  | claim => exact s.between_takeClaim (fun t new => t.between_changeHoldings new) l tag ps
  | release => exact s.between_takeRelease l tag ps
  | queryBank => exact s.between_takeQueryBank l tag ps
  | queryTally => exact s.between_takeQueryTally l tag ps
  | queryStatus => exact s.between_takeQueryStatus l tag ps
  | walkMemory => exact s.between_takeWalkMemory l tag ps
  | walkHoldings => exact s.between_takeWalkHoldings l tag ps
  | readCounters => exact s.between_takeReadCounters l tag ps
  | readLog => exact s.between_takeReadLog l tag ps
  | setFormat => exact s.between_queued _ _ _ _ _ (readSetFormat_lawful ps)
  | setOutputRange => exact s.between_queued _ _ _ _ _ (readSetOutputRange_lawful ps)
  | setRephase => exact s.between_takeSetRephase l tag ps
  | setAging => exact s.between_takeSetAging l tag ps
  | setLink => exact s.between_takeSetLink l tag ps
  | assignStatic => exact s.between_takeAssignStatic l tag ps
  | unassignStatic => exact s.between_takeUnassignStatic l tag ps
  | lockSetup => exact s.between_takeLockSetup l tag ps
  | warmReset => exact s.between_takeWarmReset l tag ps
  | clearLog => exact s.between_takeClearLog l tag ps
  | clearReferenceFlag => exact s.between_takeClearReferenceFlag l tag ps

/-- The good frame of a request of a defined kind. -/
theorem State.between_hearKind (l : Link) (k : Kind) (tag : Byte) (ps : List Byte) :
    s.Between (s.onGoodFrame l fun s => s.takeKind l k tag ps) :=
  s.between_onGoodFrame l fun t => t.between_takeKind l k tag ps

theorem State.between_hearFrame (f : RequestFrame) : s.Between (s.hearFrame f) := by
  unfold State.hearFrame
  split
  · split
    · exact s.between_hearKind _ _ _ _
    · exact .refl s
  · exact .refl s

/-- A queued request with those that come together with it. -/
theorem State.between_arrive (l : Link) (k : Kind) (tag : Byte) (params : Params) :
    s.Between (s.arrive l params fun s => s.takeKind l k tag params.bytes) :=
  (State.Between.foldl State.between_hearFrame _ s).trans <|
    (State.between_hearKind _ l k tag params.bytes).trans (State.Between.foldl State.between_hearFrame _ _)

theorem State.between_takeBody (l : Link) (body : List Byte) : s.Between (s.takeBody l body) := by
  refine s.between_onGoodFrame l fun t => ?_
  split
  · unfold State.takeRequest
    split
    · exact t.between_withReplySlot l fun u => u.between_refuse _ _ _ _ _
    · exact t.between_takeKind _ _ _ _
  · exact .refl t
  · exact .refl t

/-! The receiver, byte by byte. -/

theorem State.between_discardFrame (l : Link) : s.Between (s.discardFrame l) := by
  unfold State.discardFrame
  split
  · exact s.between_modifyLink l _
  · exact .refl s

theorem State.between_receiveByte (l : Link) (b : Byte) : s.Between (s.receiveByte l b) := by
  unfold State.receiveByte
  split
  · split
    · exact s.between_modifyLink l _
    · exact .refl s
  · split
    · exact s.between_modifyLink l _
    · exact s.between_discardFrame l
  · exact s.between_modifyLink l _
  · split
    · exact s.between_takeBody l _
    · exact s.between_discardFrame l

theorem State.between_receiveError (l : Link) : s.Between (s.receiveError l) := by
  unfold State.receiveError
  split
  · exact .refl s
  · exact s.between_discardFrame l

/-! Sweeps and reference pulses. -/

theorem State.between_sweepHoldings (f : FrameCount) : s.Between (s.sweepHoldings f) :=
  (s.between_moveHoldings _ _).trans (State.between_reportHoldings _ _ _)

theorem State.between_takeOwedSweep : s.Between s.takeOwedSweep := by
  unfold State.takeOwedSweep
  split
  · exact (s.between_sweepHoldings _).trans (State.between_setArbiter _ _)
  · exact .refl s

theorem ReferenceUnit.acquireMore_clock (u : ReferenceUnit) (instant : Nat) :
    (u.acquireMore instant).frameCount = u.frameCount ∧ (u.acquireMore instant).format = u.format := by
  unfold ReferenceUnit.acquireMore
  split_ifs <;> exact ⟨rfl, rfl⟩

theorem ReferenceUnit.miss_clock (u : ReferenceUnit) (due : Nat) :
    (u.miss due).frameCount = u.frameCount ∧ (u.miss due).format = u.format := by
  unfold ReferenceUnit.miss
  split <;> [skip; skip; split_ifs; split_ifs] <;> exact ⟨rfl, rfl⟩

/-- A state that leaves what happens between boundaries to its frame, or the boundary taken from one at an instant. -/
def State.PulseOutcome (s : State) (instant : Nat) (signals : PerInput InputSignal) (t : State) : Prop :=
  ∃ u : State, s.Between u ∧ (t = u ∨ t = u.boundary signals instant)

theorem State.Between.noBoundary {s t : State} (h : s.Between t) (instant : Nat) (signals : PerInput InputSignal) :
    s.PulseOutcome instant signals t := ⟨t, h, .inl rfl⟩

theorem State.Between.thenBoundary {s u : State} (h : s.Between u) (instant : Nat) (signals : PerInput InputSignal) :
    s.PulseOutcome instant signals (u.boundary signals instant) := ⟨u, h, .inr rfl⟩

/-- A good pulse in REPHASE_WAIT (R138). -/
theorem State.pulseWaiting_outcome (instant : Nat) (signals : PerInput InputSignal) :
    s.PulseOutcome instant signals (s.pulseWaiting instant signals) := by
  unfold State.pulseWaiting
  dsimp only
  split_ifs
  · exact (s.between_updateReference (s.reference.lockInPhase instant) rfl rfl).noBoundary _ _
  · exact (s.between_updateReference (s.reference.lockAtPulse instant) rfl rfl).thenBoundary _ _
  · refine State.Between.noBoundary ?_ _ _
    exact s.between_setReference _ rfl rfl

/-- A good pulse in LOCKED (R139). -/
theorem State.pulseLocked_outcome (due instant : Nat) (signals : PerInput InputSignal) :
    s.PulseOutcome instant signals (s.pulseLocked due instant signals) := by
  unfold State.pulseLocked
  dsimp only
  split_ifs
  · refine State.Between.thenBoundary ?_ _ _
    exact s.between_setReference _ rfl rfl
  · refine State.Between.noBoundary ?_ _ _
    exact s.between_setReference _ rfl rfl

/-- A pulse changes the reference unit, and may then take a boundary at its instant (R136 to R139). -/
theorem State.pulse_outcome (instant : Nat) (signals : PerInput InputSignal) :
    s.PulseOutcome instant signals (s.pulse instant signals) := by
  have acquired := s.between_updateReference (s.reference.acquire instant) rfl rfl
  obtain ⟨count, format⟩ := s.reference.acquireMore_clock instant
  have counted := s.between_updateReference (s.reference.acquireMore instant) count format
  unfold State.pulse
  dsimp only
  split
  · exact acquired.noBoundary _ _
  · split
    · split
      · exact acquired.noBoundary _ _
      · exact counted.noBoundary _ _
      · exact s.pulseWaiting_outcome instant signals
      · exact s.pulseLocked_outcome _ instant signals
    · split
      · exact acquired.noBoundary _ _
      · exact acquired.noBoundary _ _
      · exact acquired.noBoundary _ _
      · exact (State.Between.refl s).noBoundary _ _

/-! Every command. -/

theorem exec_sweep_between {t : State} (h : exec .sweep s = .next t) : s.Between t := by
  obtain rfl := Host.Outcome.next.inj h
  split
  · exact s.between_takeOwedSweep
  · exact .refl s
  · split
    · exact (s.between_sweepHoldings _).trans (State.between_setArbiter _ _)
    · exact .refl s

theorem exec_missingPulse_between {t : State} (h : exec .missingPulse s = .next t) : s.Between t := by
  obtain rfl := Host.Outcome.next.inj h
  split
  · exact .refl s
  · next due _ =>
    split
    · exact .refl s
    · obtain ⟨count, format⟩ := s.reference.miss_clock due
      exact s.between_updateReference _ count format

theorem exec_claim_between (l : Link) (tag : Byte) (params : ClaimParams) {t : State} (h : exec (.claim l tag params) s = .next t) :
    s.Between t := by
  obtain rfl := Host.Outcome.next.inj h
  split
  · exact s.between_onGoodFrame _ fun t => t.between_takeClaim (fun u new => u.between_changeHoldings new) _ _ _
  · exact s.between_hearClaims _

/-- Every command but those that may take a boundary and the cold reset keeps to the frame of what happens between boundaries. -/
theorem exec_between (c : Instr) {t : State} (h : exec c s = .next t) (noBoundary : ∀ sig, c ≠ .frameBoundary sig)
    (noPulse : ∀ i sig, c ≠ .referencePulse i sig) (noReset : c ≠ .coldResetAsserted) : s.Between t := by
  cases c with
  | frameBoundary sig => exact absurd rfl (noBoundary sig)
  | referencePulse i sig => exact absurd rfl (noPulse i sig)
  | coldResetAsserted => exact absurd rfl noReset
  | sweep => exact exec_sweep_between s h
  | missingPulse => exact exec_missingPulse_between s h
  | claim l tag params => exact exec_claim_between s l tag params h
  | signalLoss i first last =>
    obtain rfl := Host.Outcome.next.inj h
    split
    · exact s.between_setLost _
    · exact .refl s
  | select l tag params => exact Host.Outcome.next.inj h ▸ s.between_arrive l .select tag params
  | matte l tag params => exact Host.Outcome.next.inj h ▸ s.between_arrive l .matte tag params
  | nextSet l tag params => exact Host.Outcome.next.inj h ▸ s.between_arrive l .nextSet tag params
  | transitionSetup l tag params => exact Host.Outcome.next.inj h ▸ s.between_arrive l .transitionSetup tag params
  | faderSetup l tag params => exact Host.Outcome.next.inj h ▸ s.between_arrive l .faderSetup tag params
  | auto l tag params => exact Host.Outcome.next.inj h ▸ s.between_arrive l .auto tag params
  | cut l tag params => exact Host.Outcome.next.inj h ▸ s.between_arrive l .cut tag params
  | keyOrder l tag params => exact Host.Outcome.next.inj h ▸ s.between_arrive l .keyOrder tag params
  | keySelect l tag params => exact Host.Outcome.next.inj h ▸ s.between_arrive l .keySelect tag params
  | keySetup l tag params => exact Host.Outcome.next.inj h ▸ s.between_arrive l .keySetup tag params
  | keyMask l tag params => exact Host.Outcome.next.inj h ▸ s.between_arrive l .keyMask tag params
  | keyCut l tag params => exact Host.Outcome.next.inj h ▸ s.between_arrive l .keyCut tag params
  | recallEffects l tag params => exact Host.Outcome.next.inj h ▸ s.between_arrive l .recallEffects tag params
  | release l tag params => exact Host.Outcome.next.inj h ▸ s.between_arrive l .release tag params
  | setFormat l tag params => exact Host.Outcome.next.inj h ▸ s.between_arrive l .setFormat tag params
  | setOutputRange l tag params => exact Host.Outcome.next.inj h ▸ s.between_arrive l .setOutputRange tag params
  | fader l tag ps => exact Host.Outcome.next.inj h ▸ s.between_hearKind l .fader tag ps
  | store l tag ps => exact Host.Outcome.next.inj h ▸ s.between_hearKind l .store tag ps
  | erase l tag ps => exact Host.Outcome.next.inj h ▸ s.between_hearKind l .erase tag ps
  | queryBank l tag ps => exact Host.Outcome.next.inj h ▸ s.between_hearKind l .queryBank tag ps
  | queryTally l tag ps => exact Host.Outcome.next.inj h ▸ s.between_hearKind l .queryTally tag ps
  | queryStatus l tag ps => exact Host.Outcome.next.inj h ▸ s.between_hearKind l .queryStatus tag ps
  | walkMemory l tag ps => exact Host.Outcome.next.inj h ▸ s.between_hearKind l .walkMemory tag ps
  | walkHoldings l tag ps => exact Host.Outcome.next.inj h ▸ s.between_hearKind l .walkHoldings tag ps
  | readCounters l tag ps => exact Host.Outcome.next.inj h ▸ s.between_hearKind l .readCounters tag ps
  | readLog l tag ps => exact Host.Outcome.next.inj h ▸ s.between_hearKind l .readLog tag ps
  | setRephase l tag ps => exact Host.Outcome.next.inj h ▸ s.between_hearKind l .setRephase tag ps
  | setAging l tag ps => exact Host.Outcome.next.inj h ▸ s.between_hearKind l .setAging tag ps
  | setLink l tag ps => exact Host.Outcome.next.inj h ▸ s.between_hearKind l .setLink tag ps
  | assignStatic l tag ps => exact Host.Outcome.next.inj h ▸ s.between_hearKind l .assignStatic tag ps
  | unassignStatic l tag ps => exact Host.Outcome.next.inj h ▸ s.between_hearKind l .unassignStatic tag ps
  | lockSetup l tag ps => exact Host.Outcome.next.inj h ▸ s.between_hearKind l .lockSetup tag ps
  | warmReset l tag ps => exact Host.Outcome.next.inj h ▸ s.between_hearKind l .warmReset tag ps
  | clearLog l tag ps => exact Host.Outcome.next.inj h ▸ s.between_hearKind l .clearLog tag ps
  | clearReferenceFlag l tag ps => exact Host.Outcome.next.inj h ▸ s.between_hearKind l .clearReferenceFlag tag ps
  | undefinedKind l kind tag ps => exact Host.Outcome.next.inj h ▸ s.between_takeBody l _
  | disabledLinkFrame l kind tag ps => exact Host.Outcome.next.inj h ▸ s.between_takeBody l _
  | frameDiscarded l cause => exact Host.Outcome.next.inj h ▸ s.between_discardFrame l
  | byteGapExpiry l =>
    obtain rfl := Host.Outcome.next.inj h
    split
    · exact .refl s
    · exact s.between_discardFrame l
  | transmissionBegins l => exact Host.Outcome.next.inj h ▸ s.between_modifyLink l _
  | transmissionEnds l => exact Host.Outcome.next.inj h ▸ s.between_modifyLink l _
  | coldResetReleased timerDue =>
    obtain rfl := Host.Outcome.next.inj h
    split
    · exact (s.between_setSetup _).trans (State.between_setReference _ _ rfl rfl)
    · exact s.between_setSetup _
  | warmResetAsserted =>
    obtain rfl := Host.Outcome.next.inj h
    split
    · exact s.between_setSetup _
    · exact s.between_warmRestart.trans (State.between_setSetup _ _)
  | warmResetReleased => exact Host.Outcome.next.inj h ▸ s.between_setSetup _
  | byteReceived l b stopValid =>
    obtain rfl := Host.Outcome.next.inj h
    split
    · split
      · exact s.between_receiveByte l b
      · exact s.between_receiveError l
    · exact .refl s

end Sys2Proof.Machine
end

section
/-! The parts of a frame boundary: what each leaves unchanged, and the whole of one as an equation. -/

namespace Sys2Proof.Machine

variable (s : State)

/-- A report goes into the transmit queues alone (R153). -/
theorem State.postWhere_eq (want : Link → Bool) (m : Message) :
    s.postWhere want m = s.setLinks (.ofFn fun l =>
      if s.setup.phase.isRunning && s.takesReports l && want l then (s.links.get l).report m else s.links.get l) := by
  have whole : (PerLink.ofFn fun l => s.links.get l) = s.links := PerLink.ext_get fun l => PerLink.get_ofFn _ l
  unfold State.postWhere
  split
  · next running => simp only [running, Bool.true_and]
  · next resting => simp only [resting, Bool.false_and, Bool.false_eq_true, if_false, whole]; rfl

/-- The owed sweep moves holdings, with the withdrawals, reports and the forgotten fader that brings; its mark is cleared. -/
theorem State.takeOwedSweep_eq :
    let t := s.takeOwedSweep
    t = { s with
      bank := t.bank, queue := t.queue, links := t.links, log := t.log
      arbiter := { s.arbiter with
        holdings := t.arbiter.holdings
        sweepMark := if s.arbiter.sweepMark = .owed then .none else s.arbiter.sweepMark } } ∧
    ∀ e ∈ t.queue, e ∈ s.queue := by
  by_cases owed : s.arbiter.sweepMark = .owed
  · obtain ⟨moved, -⟩ := s.moveHoldings_eq (s.arbiter.holdings.map Holding.swept) noEntry
    simp only [State.takeOwedSweep, owed, if_true, State.sweepHoldings, State.reportHoldings]
    split
    · rw [moved]
      exact ⟨rfl, fun e he => List.mem_of_mem_filter he⟩
    · simp only [State.postReport, State.postWhere_eq]
      rw [moved]
      exact ⟨rfl, fun e he => List.mem_of_mem_filter he⟩
  · have same : s.takeOwedSweep = s := if_neg owed
    intro t
    rw [show t = s from same, if_neg owed]
    exact ⟨rfl, fun _ he => he⟩

/-- Stage 5 (R100 to R102): reports, the two copies, and nothing more owed to a link. -/
theorem State.reportBank_eq (before : Tally) :
    s.reportBank before = { s with
      links := (s.reportBank before).links, reported := s.bank.contents, settled := s.bank.fader
      arbiter := { s.arbiter with refresh := .const false } } := by
  simp only [State.reportBank, State.postWhere_eq]
  rfl

/-- The phase once a boundary has been taken (R162). -/
def Phase.afterBoundary : Phase → Phase
  | .initialising _ => .running
  | p => p

/-- The end of a boundary (R4, R34, R162): reports, black ended, initialisation ended. -/
theorem State.closeBoundary_eq (before : PerInput InputStatus) :
    s.closeBoundary before = { s with
      links := (s.closeBoundary before).links, compositor := { s.compositor with blackout := false }
      setup := { s.setup with phase := s.setup.phase.afterBoundary } } := by
  rcases s with ⟨ports, bank, compositor, queue, tally, reported, settled, memory, arbiter, reference, links, setup, log, pending⟩
  rcases setup with ⟨lock, record, cold, warm, phase⟩
  cases phase with
  | initialising c => simp only [State.closeBoundary, State.endInitialisation, State.postReport, State.postWhere_eq]; rfl
  | running =>
    simp only [State.closeBoundary]
    split
    · rfl
    · simp only [State.postStatus, State.postReport, State.postWhere_eq]; rfl
  | warmReset c => rfl
  | coldReset => rfl

/-- The state at a boundary once the queue has been applied, before the transition step (R91). -/
def State.applied (signals : PerInput InputSignal) (instant : Nat) : State :=
  (s.takeOwedSweep.openBoundary signals instant).applyQueue signals

/-- The whole of a boundary, from the state in which the queue has been applied (R91). -/
theorem State.boundary_eq (signals : PerInput InputSignal) (instant : Nat) :
    let a := s.applied signals instant
    s.boundary signals instant = { a with
      bank := a.bank.step, tally := a.bank.step.tally, reported := a.bank.step.contents, settled := a.bank.step.fader
      arbiter := { a.arbiter with refresh := .const false }, compositor := { a.compositor with blackout := false }
      setup := { a.setup with phase := a.setup.phase.afterBoundary }, links := (s.boundary signals instant).links } := by
  intro a
  have whole : s.boundary signals instant =
    (((s.takeOwedSweep.openBoundary signals instant).processBank signals).reportBank s.takeOwedSweep.tally).closeBoundary
      s.takeOwedSweep.ports.status := rfl
  rw [whole, State.closeBoundary_eq, State.reportBank_eq]
  rfl

/-! The queue applied entry by entry. -/

/-- What every application of an entry keeps holds once the rounds are over. -/
theorem State.applyRounds_keeps {signals : PerInput InputSignal} {P : State → Prop}
    (h : ∀ (t : State) e rest, t.queue = e :: rest → P t → P ((t.setQueue rest).applyEntry signals e)) :
    ∀ (n : Nat) (s : State), P s → P (State.applyRounds signals n s) := by
  intro n
  induction n with
  | zero => exact fun _ hs => hs
  | succ n ih =>
    intro s hs
    unfold State.applyRounds
    split
    · exact hs
    · next e rest hq => exact ih _ (h s e rest hq hs)

end Sys2Proof.Machine
end

section
/-! The bank stays in range: the transition step, the application of every entry, and every command (R8, R35, R46, R50, R53, R56,
R63, R72, R78, R79, R124). -/

namespace Sys2Proof.Machine

/-! The fader. -/

/-- The filter moves S toward F and never past it (R78). -/
theorem filterNext_le {f s w : Nat} (hf : f ≤ 4095) (hs : s ≤ 4095) (hw : w ≤ 16) : filterNext f s w ≤ 4095 := by
  have upper : (((f : Int) - s) * w).tdiv 16 ≤ max 0 ((f : Int) - s) := by
    rcases le_total (s : Int) f with up | down
    · have small : ((f : Int) - s) * w ≤ ((f : Int) - s) * 16 := by gcongr; exact_mod_cast hw
      have sign : 0 ≤ ((f : Int) - s) * w := mul_nonneg (by omega) (by omega)
      rw [Int.tdiv_eq_ediv_of_nonneg sign]
      omega
    · have sign : ((f : Int) - s) * w ≤ 0 := mul_nonpos_of_nonpos_of_nonneg (by omega) (by omega)
      have back := Int.tdiv_nonneg (neg_nonneg.2 sign) (show (0 : Int) ≤ 16 by decide)
      rw [Int.neg_tdiv] at back
      omega
  unfold filterNext filterStep
  dsimp only
  split_ifs <;> omega

theorem barOf_le (s l u : Nat) : barOf s l u ≤ 1024 := by
  unfold barOf
  split
  · omega
  · split
    · exact le_rfl
    · exact Nat.div_le_of_le_mul (Nat.mul_le_mul_right _ (by omega))

theorem Fader.bar_le (f : Fader) : f.bar ≤ 1024 := barOf_le _ _ _

theorem Fader.filter_inRange {f : Fader} (h : f.InRange) : f.filter.InRange := by
  unfold Fader.filter
  split
  · obtain ⟨reading, filtered, previous, settings⟩ := h
    exact ⟨reading, filterNext_le reading filtered settings.2.2.2.2, previous, settings⟩
  · exact h

/-! The bank amid a boundary. -/

/-- The bank with the transition set aside. -/
def Bank.rest (b : Bank) : Bank := { b with state := .idle, position := 0, count := 0 }

/-- P and n while a boundary is being processed: an AUTO applied at it has set n, and its first step is still to come (R59, R60). -/
def Bank.PositionAmid (b : Bank) : Prop :=
  match b.state with
  | .idle => b.position = 0 ∧ b.count = 0
  | .runManual => 1 ≤ b.position ∧ b.position ≤ 1023 ∧ b.count = 0
  | .runAuto => True

/-- The bank is as the tables say, but for P and n of an AUTO between its application and its step. -/
structure Bank.LawfulAmid (b : Bank) (f : Format) : Prop where
  rest : b.rest.Lawful f
  position : b.PositionAmid

variable {b : Bank} {f : Format}

theorem Bank.Lawful.rest (h : b.Lawful f) : b.rest.Lawful f := { h with position := ⟨rfl, rfl⟩ }

theorem Bank.Lawful.amid (h : b.Lawful f) : b.LawfulAmid f where
  rest := h.rest
  position := by
    have law := h.position
    unfold Bank.PositionLaw at law
    unfold Bank.PositionAmid
    split <;> simp_all

/-! Completions and the transition step. -/

theorem Bank.complete_lawful (h : b.rest.Lawful f) : b.complete.Lawful f :=
  { h with
    setup := by
      have range : b.setup.InRange := h.setup
      unfold Bank.complete
      dsimp only
      split
      · exact range
      · exact range
    position := ⟨rfl, rfl⟩ }

theorem Bank.completeNotLive_lawful (h : b.rest.Lawful f) : b.completeNotLive.Lawful f :=
  { Bank.complete_lawful h with fader := h.fader }

theorem Bank.completeByFader_lawful (h : b.rest.Lawful f) : b.completeByFader.Lawful f := by
  obtain ⟨reading, filtered, -, settings⟩ := h.fader
  exact { Bank.complete_lawful h with fader := ⟨reading, filtered, Fader.bar_le _, settings⟩ }

theorem Bank.autoStep_lawful (h : b.rest.Lawful f) (auto : b.state = .runAuto) : b.autoStep.Lawful f := by
  unfold Bank.autoStep
  dsimp only
  split
  · exact Bank.completeNotLive_lawful h
  · refine { h with position := ?_ }
    simp only [Bank.PositionLaw, auto]
    exact ⟨by omega, by omega, trivial⟩

/-- The drive stage outside RUN_AUTO, at a bar position (R81 to R83). -/
theorem Bank.drive_lawful (h : b.LawfulAmid f) (manual : b.state ≠ .runAuto) {bar : Nat} (range : bar ≤ 1024) :
    (b.drive bar).Lawful f := by
  obtain ⟨reading, filtered, -, settings⟩ := h.rest.fader
  have driven : ({ b with fader := { b.fader with live := true, previous := bar } } : Bank).rest.Lawful f :=
    { h.rest with fader := ⟨reading, filtered, range, settings⟩ }
  have law := h.position
  unfold Bank.PositionAmid at law
  unfold Bank.drive
  dsimp only
  split
  · next idle =>
    simp only [idle] at law
    split
    · exact { driven with position := by simpa [Bank.PositionLaw, idle] using law }
    · split
      · exact Bank.completeByFader_lawful driven
      · refine { driven with position := ?_ }
        simp only [Bank.PositionLaw]
        omega
  · next running =>
    simp only [running] at law
    split
    · exact driven
    · split
      · exact Bank.completeByFader_lawful driven
      · refine { driven with position := ?_ }
        simp only [Bank.PositionLaw, running]
        omega
  · next auto => exact absurd auto manual

/-- Outside RUN_AUTO the two forms of the law agree. -/
theorem Bank.LawfulAmid.lawful (h : b.LawfulAmid f) (manual : b.state ≠ .runAuto) : b.Lawful f := by
  refine { h.rest with position := ?_ }
  have law := h.position
  unfold Bank.PositionAmid at law
  unfold Bank.PositionLaw
  split <;> simp_all

theorem Bank.faderStep_lawful (h : b.LawfulAmid f) (manual : b.state ≠ .runAuto) : b.faderStep.Lawful f := by
  obtain ⟨reading, filtered, previous, settings⟩ := Fader.filter_inRange h.rest.fader
  have run : ({ b with fader := b.fader.filter } : Bank).LawfulAmid f :=
    ⟨{ h.rest with fader := ⟨reading, filtered, previous, settings⟩ }, h.position⟩
  unfold Bank.faderStep
  dsimp only
  split
  · exact Bank.drive_lawful run manual (Fader.bar_le _)
  · exact { run.lawful manual with fader := ⟨reading, filtered, Fader.bar_le _, settings⟩ }

theorem Bank.faderFollow_rest (h : b.rest.Lawful f) : b.faderFollow.rest.Lawful f := by
  obtain ⟨reading, filtered, -, settings⟩ := Fader.filter_inRange h.fader
  exact { h with fader := ⟨reading, filtered, Fader.bar_le _, settings⟩ }

/-- The transition step of a boundary leaves a lawful bank (R63, R77). -/
theorem Bank.step_lawful (h : b.LawfulAmid f) : b.step.Lawful f := by
  unfold Bank.step
  split
  · next auto => exact Bank.autoStep_lawful (Bank.faderFollow_rest h.rest) auto
  · next idle => exact Bank.faderStep_lawful h (by simp [idle])
  · next running => exact Bank.faderStep_lawful h (by simp [running])

/-! Recalls and masks. -/

theorem clampMask_inPicture (f : Format) (k : KeySettings) : (clampMask f k).InPicture f := by
  cases f <;> simp only [KeySettings.InPicture, clampMask, Format.width, Format.height] <;> omega

/-- A keyer takes settings in range, clamped to the picture (R42, R130). -/
theorem Bank.LawfulAmid.setSettings (h : b.LawfulAmid f) (k : Keyer) {v : KeySettings} (range : v.InRange) (mask : v.InPicture f) :
    ({ b with settings := b.settings.set k v } : Bank).LawfulAmid f where
  rest := { h.rest with
    settings := fun j => by
      simp only [Bank.rest, PerKeyer.get_set]
      split
      · exact range
      · exact h.rest.settings j
    masks := fun j => by
      simp only [Bank.rest, PerKeyer.get_set]
      split
      · exact mask
      · exact h.rest.masks j }
  position := h.position

theorem Bank.LawfulAmid.recallKey (h : b.LawfulAmid f) (k : Keyer) (on : Bool) {p : Option KeyPart}
    (range : ∀ v, p = some v → v.settings.InRange) : (b.recallKey f k on p).LawfulAmid f := by
  unfold Bank.recallKey
  split
  · exact h
  · next v =>
    split
    · obtain ⟨rest, position⟩ := h.setSettings k (v := clampMask f v.settings) (range v rfl) (clampMask_inPicture f _)
      exact ⟨{ rest with }, position⟩
    · exact h

theorem Bank.LawfulAmid.recallBkgd (h : b.LawfulAmid f) (on : Bool) (p : Option BkgdPart) : (b.recallBkgd on p).LawfulAmid f := by
  unfold Bank.recallBkgd
  split
  · exact h
  · split
    · exact ⟨{ h.rest with }, h.position⟩
    · exact h

theorem Bank.LawfulAmid.recallTrans (h : b.LawfulAmid f) (on : Bool) {p : Option TransPart}
    (range : ∀ v, p = some v → v.nextSet.Nonempty ∧ v.setup.InRange ∧ StackOrder v.stack) : (b.recallTrans on p).LawfulAmid f := by
  unfold Bank.recallTrans
  split
  · exact h
  · next v =>
    obtain ⟨members, setup, stack⟩ := range v rfl
    split
    · exact ⟨{ h.rest with nextSet := members, setup := setup, stack := stack }, h.position⟩
    · exact h

/-- A RECALL sets a lawful bank (R130). -/
theorem Bank.LawfulAmid.recall (h : b.LawfulAmid f) (scope : PartSet) {e : Effects} (lawful : e.Lawful) :
    (b.recall f scope e).LawfulAmid f := by
  have start := (h.recallBkgd scope.bkgd e.bkgd).recallTrans scope.trans lawful.1
  unfold Bank.recall
  exact List.foldlRecOn (motive := fun b : Bank => b.LawfulAmid f) Keyer.all _ start fun b hb k _ => hb.recallKey k _ (lawful.2 k)

end Sys2Proof.Machine
end

section
/-! The three laws of every step: the bank in range, the tally derived, and the bank left alone between boundaries. -/

namespace Sys2Proof.Machine

variable (s : State)

/-! The application of an entry keeps the bank in range (R86, R91). -/

/-- The ranges while the queue is being applied: those of `State.BankLaw` but for P and n of an AUTO just applied. -/
structure State.AmidLaw (s : State) : Prop where
  bank : s.bank.LawfulAmid s.reference.format
  registers : ∀ r, (s.memory.registers.get r).Lawful
  entries : ∀ e ∈ s.queue, e.action.Lawful

variable {s}

theorem State.BankLaw.amid (h : s.BankLaw) : s.AmidLaw := ⟨h.bank.amid, h.registers, h.entries⟩

theorem State.applyAuto_amid (h : s.bank.LawfulAmid s.reference.format) (e : Entry) :
    (s.applyAuto e).bank.LawfulAmid (s.applyAuto e).reference.format := by
  unfold State.applyAuto
  split
  · exact ⟨{ h.rest with fader := h.rest.fader }, trivial⟩
  · exact ⟨{ h.rest with fader := h.rest.fader }, trivial⟩
  · exact h

theorem State.applyRecall_amid (h : s.AmidLaw) (e : Entry) (r : Register) (requested : PartSet) :
    (s.applyRecall e r requested).bank.LawfulAmid (s.applyRecall e r requested).reference.format := by
  unfold State.applyRecall
  dsimp only
  split_ifs
  · exact h.bank
  · exact h.bank
  · exact h.bank
  · exact h.bank.recall _ (h.registers r)

/-- What happens between boundaries may also happen amid one. -/
theorem State.Between.amid {t : State} (b : s.Between t) (h : s.bank.LawfulAmid s.reference.format) :
    t.bank.LawfulAmid t.reference.format := by
  obtain ⟨range, others⟩ := h.rest.fader
  rw [b.format, b.bank]
  exact ⟨{ h.rest with fader := ⟨b.reading range, others⟩ }, h.position⟩

theorem State.changeFormat_bank (s : State) (f : Format) (signals : PerInput InputSignal) :
    (s.changeFormat f signals).bank = s.bank.clampMasks f ∧ (s.changeFormat f signals).reference = s.reference.reformat f := by
  unfold State.changeFormat State.updateReference
  dsimp only
  split
  · exact ⟨rfl, rfl⟩
  · simp only [State.postStatus, State.postReport, State.postWhere_eq]
    exact ⟨rfl, rfl⟩

theorem State.applySetFormat_amid (h : s.bank.LawfulAmid s.reference.format) (e : Entry) (f : Format)
    (signals : PerInput InputSignal) :
    (s.applySetFormat e f signals).bank.LawfulAmid (s.applySetFormat e f signals).reference.format := by
  unfold State.applySetFormat
  split_ifs
  · exact h
  · exact h
  · obtain ⟨bank, reference⟩ := s.changeFormat_bank f signals
    have clamped : (s.bank.clampMasks f).LawfulAmid f :=
      ⟨{ h.rest with
          settings := fun k => by
            simp only [Bank.rest, Bank.clampMasks, PerKeyer.get_map]
            exact h.rest.settings k
          masks := fun k => by
            simp only [Bank.rest, Bank.clampMasks, PerKeyer.get_map]
            exact clampMask_inPicture f _ }, h.position⟩
    have whole : (s.changeFormat f signals).bank.LawfulAmid (s.changeFormat f signals).reference.format := by
      rw [bank, reference]; exact clamped
    exact whole

/-- The application of an entry that records values in range. -/
theorem State.applyEntry_amid (h : s.AmidLaw) (signals : PerInput InputSignal) {e : Entry} (lawful : e.action.Lawful) :
    (s.applyEntry signals e).bank.LawfulAmid (s.applyEntry signals e).reference.format := by
  obtain ⟨rest, position⟩ := h.bank
  rcases e with ⟨l, tag, a⟩
  cases a with
  | select bus source =>
    simp only [State.applyEntry, State.applySelect]
    split
    · exact h.bank
    · cases bus <;> exact ⟨{ rest with }, position⟩
  | matte colour => exact ⟨{ rest with matte := lawful }, position⟩
  | nextSet members =>
    simp only [State.applyEntry, State.applyNextSet]
    split
    · exact h.bank
    · exact ⟨{ rest with nextSet := lawful }, position⟩
  | transitionSetup setup =>
    simp only [State.applyEntry, State.applyTransitionSetup]
    split
    · exact h.bank
    · exact ⟨{ rest with setup := lawful }, position⟩
  | faderSetup lower upper weight =>
    simp only [State.applyEntry, State.applyFaderSetup]
    split
    · exact h.bank
    · obtain ⟨reading, filtered, previous, -⟩ := rest.fader
      exact ⟨{ rest with fader := ⟨reading, filtered, previous, lawful⟩ }, position⟩
  | auto => exact State.applyAuto_amid h.bank _
  | cut => exact (Bank.completeNotLive_lawful rest).amid
  | keyOrder order =>
    simp only [State.applyEntry, State.applyKeyOrder]
    split
    · exact h.bank
    · exact ⟨{ rest with stack := lawful }, position⟩
  | keySelect k bus source => cases bus <;> exact ⟨{ rest with }, position⟩
  | keySetup k mode clip gain invert => exact h.bank.setSettings k lawful (rest.masks k)
  | keyMask k mode left right top bottom => exact h.bank.setSettings k (rest.settings k) (clampMask_inPicture _ _)
  | keyCut k action =>
    simp only [State.applyEntry, State.applyKeyCut]
    split
    · exact h.bank
    · exact ⟨{ rest with }, position⟩
  | recallEffects r scope => exact State.applyRecall_amid h _ r scope
  | release scope => exact (s.between_carryOutRelease l tag scope).amid h.bank
  | setFormat f => exact State.applySetFormat_amid h.bank _ f signals
  | setOutputRange r => exact h.bank

theorem State.applyQueue_amid (h : s.AmidLaw) (signals : PerInput InputSignal) : (s.applyQueue signals).AmidLaw := by
  refine State.applyRounds_keeps (P := State.AmidLaw) (fun t e rest hq ht => ?_) _ s h
  have taken : (t.setQueue rest).AmidLaw :=
    ⟨ht.bank, ht.registers, fun x hx => ht.entries x (hq ▸ List.mem_cons_of_mem e hx)⟩
  have kept := (t.setQueue rest).kept_applyEntry signals e
  exact ⟨State.applyEntry_amid taken signals (ht.entries e (hq ▸ List.mem_cons_self)), kept.memory ▸ taken.registers,
    fun x hx => taken.entries x (kept.entries x hx)⟩

/-! A boundary. -/

theorem State.boundary_bankLaw (h : s.BankLaw) (signals : PerInput InputSignal) (instant : Nat) :
    (s.boundary signals instant).BankLaw := by
  have swept := s.between_takeOwedSweep.law h
  have opened : (s.takeOwedSweep.openBoundary signals instant).BankLaw := ⟨swept.bank, swept.registers, swept.entries⟩
  have applied := State.applyQueue_amid opened.amid signals
  rw [s.boundary_eq signals instant]
  exact ⟨Bank.step_lawful applied.bank, applied.registers, applied.entries⟩

theorem State.boundary_tally (s : State) (signals : PerInput InputSignal) (instant : Nat) :
    (s.boundary signals instant).tally = (s.boundary signals instant).bank.tally := by
  rw [s.boundary_eq signals instant]

/-- The tally does not read the fader (R97, R98). -/
theorem State.Between.tally_derived {t : State} (b : s.Between t) (h : s.tally = s.bank.tally) : t.tally = t.bank.tally := by
  rw [b.tally, b.bank, h]
  rfl

/-! Every step. -/

/-- What holds of a state, is kept between boundaries and at every boundary, and holds after a cold reset, is kept by every step. -/
theorem step_keeps {P : State → Prop} (waiting : ∀ (s : State) pending, P s → P { s with pending := pending })
    (between : ∀ s t : State, s.Between t → P s → P t)
    (boundary : ∀ (s : State) signals instant, P s → P (s.boundary signals instant))
    (cold : ∀ setup last next pending, P (coldState setup last next pending))
    (s t : State) (hs : P s) (h : step s = .next t) : P t := by
  unfold step at h
  split at h
  · exact Host.Outcome.next.inj h ▸ hs
  · next c rest _ =>
    have front := waiting s rest hs
    cases c with
    | frameBoundary signals =>
      obtain rfl := Host.Outcome.next.inj h
      split
      · exact front
      · exact boundary _ _ _ front
    | referencePulse instant signals =>
      obtain rfl := Host.Outcome.next.inj h
      split
      · exact front
      · obtain ⟨u, hu, e | e⟩ := State.pulse_outcome { s with pending := rest } instant signals
        · exact e ▸ between _ _ hu front
        · exact e ▸ boundary u _ _ (between _ _ hu front)
    | coldResetAsserted => exact Host.Outcome.next.inj h ▸ cold _ _ _ _
    | _ =>
      exact between _ _ (exec_between _ _ h (fun _ => nofun) (fun _ _ => nofun) nofun) front

theorem coldBank_lawful : coldBank.Lawful .F0 where
  matte := by simp [coldBank, Matte.InRange]
  settings k := by simp [coldBank, coldSettings, KeySettings.InRange]
  masks k := by simp [coldBank, coldSettings, KeySettings.InPicture, Format.width, Format.height]
  stack := List.Perm.refl _
  setup := by simp [coldBank, coldSetup, TransitionSetup.InRange]
  nextSet := .inl rfl
  position := ⟨rfl, rfl⟩
  fader := by simp [coldBank, coldFader, Fader.InRange, FaderSettingsInRange]

theorem coldState_bankLaw (setup : SetupUnit) (last next : Nat) (pending : List Instr) :
    (coldState setup last next pending).BankLaw where
  bank := coldBank_lawful
  registers r := by
    simp only [coldState, coldMemory, PerRegister.get_const]
    exact emptyEffects_lawful
  entries _ he := nomatch he

theorem coldBank_tally : clearTally = coldBank.tally := by decide

/-- Settles O6: a boundary keeps the ranges through the application of the queue and the transition step, every other command
by its frame. -/
theorem bankLawKept : Obligations.BankLawKept := by
  intro s t law h
  refine step_keeps (P := State.BankLaw) ?_ ?_ ?_ coldState_bankLaw s t law h
  · exact fun s _ h => ⟨h.bank, h.registers, h.entries⟩
  · exact fun _ _ b => b.law
  · exact fun _ signals instant h => State.boundary_bankLaw h signals instant

/-- Settles O9: a boundary derives the tally, and nothing outside one changes what it is derived from. -/
theorem tallyLawKept : Obligations.TallyLawKept := by
  intro s t law h
  refine step_keeps (P := fun s => s.tally = s.bank.tally) ?_ ?_ ?_ ?_ s t law h
  · exact fun _ _ h => h
  · exact fun _ _ b => b.tally_derived
  · exact fun s signals instant _ => s.boundary_tally signals instant
  · exact fun _ _ _ _ => coldBank_tally

/-- Settles O12, by the frame of every command between boundaries. -/
theorem bankChangesAtBoundaries : Obligations.BankChangesAtBoundaries := by
  intro c s t h noBoundary noPulse noReset
  have b := exec_between s c h noBoundary noPulse noReset
  exact ⟨b.bank, b.live, b.status, b.compositor, b.tally, b.reported, b.settled, b.frameCount, b.format⟩

end Sys2Proof.Machine
end

section
/-! Inputs and pictures: the statuses of R2, what a bus delivers (R7), and the ranges of every sample (R1, R16 to R34). -/

namespace Sys2Proof.Machine

/-! The statuses of the inputs (R2). -/

/-- A period is a whole number of lines in every format (R14). -/
theorem Format.line_mul_totalLines (f : Format) : f.line * f.totalLines = f.period := by cases f <;> rfl

theorem Format.totalLines_pos (f : Format) : 0 < f.totalLines := by cases f <;> decide

theorem Format.rateDen_ne_zero (f : Format) : f.rateDen ≠ 0 := by cases f <;> decide

/-- Equal frame rates by crosswise multiplication. -/
theorem rate_eq_iff {a b c d : Nat} (hb : b ≠ 0) (hd : d ≠ 0) : (a : ℚ) / b = (c : ℚ) / d ↔ a * d = c * b := by
  rw [div_eq_div_iff (Nat.cast_ne_zero.2 hb) (Nat.cast_ne_zero.2 hd)]
  exact_mod_cast Iff.rfl

theorem InputSignal.ofFormat_iff (g : InputSignal) (f : Format) (h : g.rateDen ≠ 0) :
    InputSignal.ofFormat g f = true ↔
      ¬ (g.width ≠ f.width ∨ g.height ≠ f.height ∨ (g.rateNum : ℚ) / g.rateDen ≠ (f.rateNum : ℚ) / f.rateDen) := by
  simp only [InputSignal.ofFormat, Bool.and_eq_true, beq_iff_eq, ne_eq, not_or, not_not, and_assoc,
    rate_eq_iff h f.rateDen_ne_zero]

/-- More than 8 lines off, the line being a whole part of the period. -/
theorem offset_over_iff (f : Format) (offset : Int) :
    Config.alignedLines * f.line < offset.natAbs ↔ 8 * (f.period : Int) < |offset| * f.totalLines := by
  rw [← f.line_mul_totalLines, Int.abs_eq_natAbs]
  have scaled : 8 * f.line * f.totalLines < offset.natAbs * f.totalLines ↔ 8 * f.line < offset.natAbs :=
    Nat.mul_lt_mul_right f.totalLines_pos
  rw [mul_assoc] at scaled
  exact_mod_cast scaled.symm

/-- Settles O26, by the order of the conditions in `evaluateInput`. -/
theorem inputStatuses : Obligations.InputStatuses := by
  intro f g hd differs over8
  have format := InputSignal.ofFormat_iff g f hd
  have offset := offset_over_iff f g.offset
  refine ⟨fun absent => ?_, fun locked seen wrong => ?_, fun locked seen right far => ?_, fun locked seen right near => ?_⟩
  · rcases absent with h | h <;> simp [evaluateInput, h]
  · have : InputSignal.ofFormat g f = false := by simpa using fun h => format.1 h wrong
    simp [evaluateInput, locked, seen, this]
  · simp [evaluateInput, locked, seen, format.2 right, offset.2 far]
  · have : ¬ Config.alignedLines * f.line < g.offset.natAbs := fun h => near (offset.1 h)
    simp [evaluateInput, locked, seen, format.2 right, this]

/-! What a bus delivers (R7). -/

theorem blackSample_eq (c : Component) : blackSample c = if c = .y then 64 else 512 := by cases c <;> rfl

theorem coSite_eq (c : Component) (x : Nat) : coSite c x = if c = .y then x else x - x % 2 := by cases c <;> rfl

variable (s : State) (raw : RawSamples) (c : Component) (x y : Nat)

/-- A position is not received where a run lost names it. -/
theorem Ports.received_eq_false (p : Ports) (f : Format) (i : Input) :
    p.received f i x y = false ↔ ∃ run ∈ p.lost.get i, run.1 ≤ y * f.width + x ∧ y * f.width + x ≤ run.2 := by
  simp [Ports.received]

theorem Ports.received_eq_true (p : Ports) (f : Format) (i : Input) :
    p.received f i x y = true ↔ ∀ run ∈ p.lost.get i, y * f.width + x < run.1 ∨ run.2 < y * f.width + x := by
  simp [Ports.received]

/-- One more run lost. -/
theorem Ports.received_lost (p : Ports) (f : Format) (i : Input) (first last : Nat) :
    ({ p with lost := p.lost.modify i fun runs => (first, last) :: runs } : Ports).received f i x y = true ↔
      ¬ (first ≤ y * f.width + x ∧ y * f.width + x ≤ last) ∧ p.received f i x y = true := by
  simp only [Ports.received_eq_true, PerInput.get_modify_self, List.forall_mem_cons]
  refine and_congr_left fun _ => ?_
  omega

/-- An input delivers its clamped sample where it is aligned and received, and black elsewhere. -/
theorem State.deliver_input (i : Input) :
    s.deliver raw (.input i) c x y =
      if s.ports.status.get i = .aligned ∧ s.ports.received s.reference.format i (coSite c x) y = true
      then ingress (raw i c (coSite c x) y) else blackSample c := rfl

/-- A SIGNAL_LOSS of an input that is not aligned. -/
theorem exec_signalLoss_idle (i : Input) (first last : Nat) (h : s.ports.status.get i ≠ .aligned) :
    exec (.signalLoss i first last) s = .next s :=
  congrArg Host.Outcome.next (if_neg h)

/-- A SIGNAL_LOSS of an aligned input adds its run to those lost. -/
theorem exec_signalLoss_aligned (i : Input) (first last : Nat) (h : s.ports.status.get i = .aligned) :
    exec (.signalLoss i first last) s = .next
      { s with ports := { s.ports with lost := s.ports.lost.modify i fun runs => (first, last) :: runs } } :=
  congrArg Host.Outcome.next (if_pos h)

/-- Settles O20. -/
theorem signalLosses : Obligations.SignalLosses := by
  refine ⟨fun s raw c x y => ?_, fun s i first last => ⟨exec_signalLoss_idle s i first last, fun aligned => ?_⟩⟩
  · intro black col position
    have isBlack : blackSample c = black := blackSample_eq c
    have isCol : coSite c x = col := coSite_eq c x
    refine ⟨isBlack, ?_, fun i => ⟨fun off => ?_, fun aligned => ⟨fun lost => ?_, fun kept => ?_⟩⟩⟩
    · cases c <;> rfl
    · rw [State.deliver_input, if_neg (fun h => off h.1), isBlack]
    · have missing := (Ports.received_eq_false col y s.ports s.reference.format i).2 lost
      rw [State.deliver_input, isCol, if_neg (by simp [missing]), isBlack]
    · have received := (Ports.received_eq_true col y s.ports s.reference.format i).2 kept
      rw [State.deliver_input, isCol, if_pos ⟨aligned, received⟩, ingress, clampInt_eq _ _ _ (by decide)]
  · refine ⟨_, exec_signalLoss_aligned s i first last aligned, fun j hj => ?_, fun raw c x y => ?_⟩
    · rw [PerInput.get_modify, if_neg hj]
    · rw [State.deliver_input, State.deliver_input, ← blackSample_eq]
      by_cases named : first ≤ y * s.reference.format.width + coSite c x ∧ y * s.reference.format.width + coSite c x ≤ last
      · rw [if_pos named, if_neg fun h => ((Ports.received_lost ..).1 h.2).1 named]
      · simp only [Ports.received_lost, named, not_false_eq_true, true_and, if_false]

/-! The ranges of the samples (R1, R16 to R34). -/

/-- The sample lies in 4..1019 (R1). -/
def InSample (v : Int) : Prop := 4 ≤ v ∧ v ≤ 1019

/-- The value is a coefficient, a key or a level, in 0..1024 (R16, R20, R25, R27). -/
def InUnity (v : Int) : Prop := 0 ≤ v ∧ v ≤ 1024

theorem clampInt_between (v : Int) {lo hi : Int} (h : lo ≤ hi) : lo ≤ clampInt v lo hi ∧ clampInt v lo hi ≤ hi := by
  rw [clampInt_eq v lo hi h]
  omega

theorem inUnity_zero : InUnity 0 := ⟨by decide, by decide⟩

theorem inUnity_unity : InUnity 1024 := ⟨by decide, by decide⟩

theorem InUnity.complement {v : Int} (h : InUnity v) : InUnity (1024 - v) := by
  obtain ⟨low, high⟩ := h
  exact ⟨by omega, by omega⟩

/-- A mix lies between its operands (R16). -/
theorem mix_inSample {u v k : Int} (hu : InSample u) (hv : InSample v) (hk : InUnity k) : InSample (mix u v k) := by
  obtain ⟨u4, u1019⟩ := hu
  obtain ⟨v4, v1019⟩ := hv
  obtain ⟨k0, k1024⟩ := hk
  have between : min 0 (v - u) * 1024 ≤ (v - u) * k ∧ (v - u) * k ≤ max 0 (v - u) * 1024 := by
    rcases le_total u v with up | down
    · rw [min_eq_left (by omega), max_eq_right (by omega)]
      constructor <;> nlinarith
    · rw [min_eq_right (by omega), max_eq_left (by omega)]
      constructor <;> nlinarith
  obtain ⟨low, high⟩ := between
  unfold InSample mix
  omega

theorem wipeCoefficient_inUnity (w p e : Nat) : InUnity (wipeCoefficient w p e) := by
  unfold wipeCoefficient
  split_ifs
  · exact inUnity_unity
  · exact inUnity_zero
  · exact clampInt_between _ (by decide)

/-- P lies in 0..1024 in every transition state (R56, R63). -/
theorem Bank.PositionLaw.position_le {b : Bank} (h : b.PositionLaw) : b.position ≤ 1024 := by
  unfold Bank.PositionLaw at h
  split at h
  · omega
  · omega
  · obtain ⟨-, below, position⟩ := h
    rw [position]
    exact Nat.div_le_of_le_mul (Nat.mul_le_mul_right _ below.le)

variable {s} {f : Format}

theorem Bank.coefficient_inUnity {b : Bank} (h : b.PositionLaw) (f : Format) (x y : Nat) : InUnity (b.coefficient f x y) := by
  unfold Bank.coefficient
  split
  · have := h.position_le
    exact ⟨by omega, by omega⟩
  · exact wipeCoefficient_inUnity _ _ _

theorem KeySettings.baseKey_inUnity (k : KeySettings) (ys : Int) : InUnity (k.baseKey ys) := by
  unfold KeySettings.baseKey
  split <;> exact clampInt_between _ (by decide)

theorem KeySettings.key_inUnity (k : KeySettings) (ys : Int) (x y : Nat) : InUnity (k.key ys x y) := by
  unfold KeySettings.key
  split_ifs
  · exact (k.baseKey_inUnity ys).complement
  · exact k.baseKey_inUnity ys
  · exact inUnity_zero

theorem Bank.layerLevel_inUnity {b : Bank} (h : b.PositionLaw) (f : Format) (k : Keyer) (x y : Nat) :
    InUnity (b.layerLevel f k x y) := by
  unfold Bank.layerLevel
  split_ifs
  · exact (Bank.coefficient_inUnity h f x y).complement
  · exact Bank.coefficient_inUnity h f x y
  · exact inUnity_unity
  · exact inUnity_zero

theorem Bank.previewLevel_inUnity (b : Bank) (k : Keyer) : InUnity (b.previewLevel k) := by
  unfold Bank.previewLevel
  split
  · exact inUnity_unity
  · exact inUnity_zero

theorem effectiveKey_inUnity {k level : Int} (hk : InUnity k) (hl : InUnity level) : InUnity (effectiveKey k level) := by
  obtain ⟨k0, k1024⟩ := hk
  obtain ⟨l0, l1024⟩ := hl
  have low : 0 ≤ k * level := mul_nonneg k0 l0
  have high : k * level ≤ 1024 * 1024 := mul_le_mul k1024 l1024 l0 (by decide)
  unfold InUnity effectiveKey
  omega

theorem Matte.InRange.sample {m : Matte} (h : m.InRange) (c : Component) : InSample (m.sample c) := by
  obtain ⟨y, y', b, b', r, r'⟩ := h
  unfold InSample
  cases c <;> simp only [Matte.sample] <;> omega

theorem blackSample_inSample (c : Component) : InSample (blackSample c) := by
  cases c <;> exact ⟨by decide, by decide⟩

/-- Whatever arrives, a bus delivers a sample in 4..1019 (R1, R7). -/
theorem State.deliver_inSample (h : s.bank.matte.InRange) (src : Source) : InSample (s.deliver raw src c x y) := by
  cases src with
  | black => exact blackSample_inSample c
  | matte => exact h.sample c
  | input i =>
    rw [State.deliver_input]
    split
    · exact clampInt_between _ (by decide)
    · exact blackSample_inSample c

/-- Key layers over a background in range give a sample in range (R30). -/
theorem State.layers_inSample (h : s.bank.matte.InRange) {level : Keyer → Int} (levels : ∀ k, InUnity (level k)) {background : Int}
    (hb : InSample background) : InSample (s.layers raw level c x y background) := by
  unfold State.layers
  exact List.foldlRecOn (motive := InSample) s.bank.stack _ hb fun out ho k _ =>
    mix_inSample ho (State.deliver_inSample raw c x y h _) (effectiveKey_inUnity (KeySettings.key_inUnity _ _ _ _) (levels k))

theorem State.composedProgram_inSample (h : s.bank.Lawful f) : InSample (s.composedProgram raw c x y) := by
  refine State.layers_inSample raw c x y h.matte (fun k => Bank.layerLevel_inUnity h.position _ k _ _) ?_
  unfold State.programBackground
  split
  · exact mix_inSample (State.deliver_inSample raw c x y h.matte _) (State.deliver_inSample raw c x y h.matte _)
      (Bank.coefficient_inUnity h.position _ _ _)
  · exact State.deliver_inSample raw c x y h.matte _

theorem State.composedPreview_inSample (h : s.bank.Lawful f) : InSample (s.composedPreview raw c x y) :=
  State.layers_inSample raw c x y h.matte (fun k => s.bank.previewLevel_inUnity k) (State.deliver_inSample raw c x y h.matte _)

/-! The outputs (R32, R34). -/

/-- The least output sample of a mode (R32). -/
def OutputRange.low (r : OutputRange) : Int := if r = .legal then 64 else 4

/-- The greatest output sample of a mode and a component (R32). -/
def OutputRange.high (r : OutputRange) (c : Component) : Int := if r = .legal then (if c = .y then 940 else 960) else 1019

theorem outputClamp_between (r : OutputRange) (c : Component) (v : Int) :
    r.low ≤ outputClamp r c v ∧ outputClamp r c v ≤ r.high c := by
  cases r <;> cases c <;> exact clampInt_between v (by decide)

theorem blackSample_between (r : OutputRange) (c : Component) : r.low ≤ blackSample c ∧ blackSample c ≤ r.high c := by
  cases r <;> cases c <;> decide

/-- Settles O18: every operand of the compositor is in range, and each of its operations keeps the range. -/
theorem picturesInRange : Obligations.PicturesInRange := by
  intro s f raw c x y lawful format hx hy low high
  have output (v : Int) : low ≤ (if s.compositor.blackout then blackSample c else outputClamp s.compositor.range c v) ∧
      (if s.compositor.blackout then blackSample c else outputClamp s.compositor.range c v) ≤ high := by
    split
    · exact blackSample_between _ c
    · exact outputClamp_between _ c v
  refine ⟨State.deliver_inSample raw c x y lawful.matte, State.composedProgram_inSample raw c x y lawful,
    State.composedPreview_inSample raw c x y lawful, output _, output _, fun black => ?_⟩
  rw [← blackSample_eq]
  exact ⟨if_pos black, if_pos black⟩

end Sys2Proof.Machine
end

section
/-! Requests at their arrival: the pictures' requests admitted (R9, R11, R37 to R44), and every undefined value refused (R88). -/

namespace Sys2Proof.Machine

variable {s : State} {l : Link} {tag : Byte}

/-! Admission. -/

/-- A defined kind coming alone is taken as its good frame (R87). -/
theorem exec_request (k : Kind) (l : Link) (tag : Byte) (ps : List Byte) (s : State) :
    exec (k.request l tag ps) s = .next (s.onGoodFrame l fun s => s.takeKind l k tag ps) := by
  cases k <;> rfl

/-- A request that waits in the queue, coming alone: admitted where its frame reads as an action that the checks let in. -/
theorem exec_request_admitted {k : Kind} {ps : List Byte} {g : Option Group} {read : List Byte → Option Action} {a : Action}
    (taken : ∀ t : State, t.takeKind l k tag ps = t.queued k l tag ps g read) (h : s.Admits l a)
    (hl : ps.length + 2 = k.bodyLength) (hr : read ps = some a) :
    exec (k.request l tag ps) s = .next (s.admitted l tag a) := by
  rw [exec_request]
  simp only [taken]
  rw [State.queued_admitted h hl hr]

theorem readSelect_code (bus : BackgroundBus) (src : Source) :
    readSelect [if bus = .a then 0 else 1, Source.code src] = some (.select bus src) := by
  cases bus <;> simp [readSelect, flagOf]

theorem clampNat_zero (v hi : Nat) : clampNat v 0 hi = min v hi := by
  rw [clampNat_eq v 0 hi (Nat.zero_le hi), Nat.zero_max]

theorem readMatte_words (y cb cr : Word16) :
    readMatte (y.bytes ++ cb.bytes ++ cr.bytes) = some (.matte
      { y := max 64 (min y.toNat 940), cb := max 64 (min cb.toNat 960), cr := max 64 (min cr.toNat 960) }) := by
  simp [readMatte, Word16.bytes, clampNat_eq]

theorem readKeySelect_code (k : Keyer) (bus : KeyBus) (src : Source) :
    readKeySelect [Keyer.code k, if bus = .fill then 0 else 1, Source.code src] = some (.keySelect k bus src) := by
  cases bus <;> simp [readKeySelect, flagOf]

theorem readKeySetup_words (k : Keyer) (mode : KeyMode) (clip gain : Word16) (invert : Bool) :
    readKeySetup ([Keyer.code k, mode.code] ++ clip.bytes ++ gain.bytes ++ [bit invert]) =
      some (.keySetup k mode (min clip.toNat 1023) (min gain.toNat 16383) invert) := by
  simp [readKeySetup, Word16.bytes, clampNat_zero]

theorem readKeyMask_words (k : Keyer) (mode : MaskMode) (left right top bottom : Word16) :
    readKeyMask ([Keyer.code k, mode.code] ++ left.bytes ++ right.bytes ++ top.bytes ++ bottom.bytes) =
      some (.keyMask k mode left.toNat right.toNat top.toNat bottom.toNat) := by
  simp [readKeyMask, Word16.bytes]

theorem readKeyCut_code (k : Keyer) (action : CutAction) :
    readKeyCut [Keyer.code k, action.code] = some (.keyCut k action) := by
  simp [readKeyCut]

/-- Settles O37. -/
theorem pictureRequestsAdmitted : Obligations.PictureRequestsAdmitted := by
  intro s l tag
  refine ⟨fun bus src h => ?_, fun y cb cr h => ?_, fun k => ⟨fun bus src h => ?_, fun mode clip gain invert h => ?_,
    fun mode left right top bottom h => ?_, fun action h => ?_⟩⟩
  · exact exec_request_admitted (k := .select) (fun _ => rfl) h rfl (readSelect_code bus src)
  · exact exec_request_admitted (k := .matte) (fun _ => rfl) h rfl (readMatte_words y cb cr)
  · exact exec_request_admitted (k := .keySelect) (fun _ => rfl) h rfl (readKeySelect_code k bus src)
  · exact exec_request_admitted (k := .keySetup) (fun _ => rfl) h rfl (readKeySetup_words k mode clip gain invert)
  · exact exec_request_admitted (k := .keyMask) (fun _ => rfl) h rfl (readKeyMask_words k mode left right top bottom)
  · exact exec_request_admitted (k := .keyCut) (fun _ => rfl) h rfl (readKeyCut_code k action)

/-! The values that the readers know. -/

variable {b : Byte}

theorem flagOf_known {f : Bool} (h : flagOf b = some f) : b.toNat ≤ 1 := by
  unfold flagOf at h; split at h <;> [omega; omega; exact nomatch h]

theorem linkOf_known {x : Link} (h : linkOf b = some x) : 1 ≤ b.toNat ∧ b.toNat ≤ 4 := by
  unfold linkOf at h; split at h <;> simp_all

theorem keyerOf_known {x : Keyer} (h : keyerOf b = some x) : b.toNat = (Keyer.code x).toNat := by
  unfold keyerOf at h; split at h <;> simp_all <;> subst h <;> rfl

theorem groupOf_known {x : Group} (h : groupOf b = some x) : b.toNat < 8 := by
  unfold groupOf at h; split at h <;> simp_all

theorem sourceOf_known {x : Source} (h : sourceOf b = some x) : 1 ≤ b.toNat ∧ b.toNat ≤ 14 := by
  unfold sourceOf at h; split at h <;> simp_all

theorem registerOf_known {x : Register} (h : registerOf b = some x) : 1 ≤ b.toNat ∧ b.toNat ≤ 16 := by
  unfold registerOf at h; split at h <;> simp_all

theorem typeOf_known {x : TransitionType} (h : typeOf b = some x) : b.toNat ≤ 1 := by
  unfold typeOf at h; split at h <;> simp_all

theorem patternOf_known {x : Pattern} (h : patternOf b = some x) : b.toNat ≤ 3 := by
  unfold patternOf at h; split at h <;> simp_all

theorem keyModeOf_known {x : KeyMode} (h : keyModeOf b = some x) : b.toNat ≤ 2 := by
  unfold keyModeOf at h; split at h <;> simp_all

theorem maskModeOf_known {x : MaskMode} (h : maskModeOf b = some x) : b.toNat ≤ 2 := by
  unfold maskModeOf at h; split at h <;> simp_all

theorem cutActionOf_known {x : CutAction} (h : cutActionOf b = some x) : b.toNat ≤ 2 := by
  unfold cutActionOf at h; split at h <;> simp_all

theorem formatOf_known {x : Format} (h : formatOf b = some x) : b.toNat ≤ 3 := by
  unfold formatOf at h; split at h <;> simp_all

theorem rangeOf_known {x : OutputRange} (h : rangeOf b = some x) : b.toNat ≤ 1 := by
  unfold rangeOf at h; split at h <;> simp_all

theorem policyOf_known {x : RephasePolicy} (h : policyOf b = some x) : b.toNat ≤ 1 := by
  unfold policyOf at h; split at h <;> simp_all

theorem recordOf_known {x : Nat} (h : recordOf b = some x) : 1 ≤ b.toNat ∧ b.toNat ≤ 8 := by
  unfold recordOf at h
  split at h
  · assumption
  · exact nomatch h

/-! What the readers of several parameters refuse, said of what they let through. -/

variable {f f1 f2 f3 f4 : Byte}

theorem readSelect_known {bus src : Byte} {a : Action} (h : readSelect [bus, src] = some a) :
    bus.toNat ≤ 1 ∧ 1 ≤ src.toNat ∧ src.toNat ≤ 14 := by
  simp only [readSelect, Option.bind_eq_bind, Option.bind_eq_some_iff] at h
  obtain ⟨_, toB, _, source, -⟩ := h
  exact ⟨flagOf_known toB, sourceOf_known source⟩

/-- A set of no element is not one that NEXT SET carries (R54). -/
theorem readNextSet_known {a : Action} (h : readNextSet [f, f1, f2, f3, f4] = some a) :
    (f.toNat ≤ 1 ∧ f1.toNat ≤ 1 ∧ f2.toNat ≤ 1 ∧ f3.toNat ≤ 1 ∧ f4.toNat ≤ 1) ∧
      ¬ (f = 0 ∧ f1 = 0 ∧ f2 = 0 ∧ f3 = 0 ∧ f4 = 0) := by
  refine ⟨?_, ?_⟩
  · simp only [readNextSet, elementSetOf, Option.map_eq_some_iff, Option.bind_eq_bind, Option.bind_eq_some_iff] at h
    obtain ⟨_, ⟨_, h0, _, h1, _, h2, _, h3, _, h4, -⟩, -⟩ := h
    exact ⟨flagOf_known h0, flagOf_known h1, flagOf_known h2, flagOf_known h3, flagOf_known h4⟩
  · rintro ⟨rfl, rfl, rfl, rfl, rfl⟩
    have empty : readNextSet [0, 0, 0, 0, 0] = none := rfl
    rw [empty] at h
    exact nomatch h

theorem readTransitionSetup_known {t p e1 e0 d1 d0 r x : Byte} {a : Action}
    (h : readTransitionSetup [t, p, e1, e0, d1, d0, r, x] = some a) :
    t.toNat ≤ 1 ∧ p.toNat ≤ 3 ∧ r.toNat ≤ 1 ∧ x.toNat ≤ 1 := by
  simp only [readTransitionSetup, Option.bind_eq_bind, Option.bind_eq_some_iff] at h
  obtain ⟨_, ht, _, hp, _, hr, _, hx, -⟩ := h
  exact ⟨typeOf_known ht, patternOf_known hp, flagOf_known hr, flagOf_known hx⟩

/-- The numbers of a KEY ORDER that is let through are those of the four keyers (R47). -/
theorem readKeyOrder_known {a b c d : Byte} {x : Action} (h : readKeyOrder [a, b, c, d] = some x) :
    [a.toNat, b.toNat, c.toNat, d.toNat].Perm [1, 2, 3, 4] := by
  simp only [readKeyOrder, Option.bind_eq_bind, Option.bind_eq_some_iff] at h
  obtain ⟨i, hi, j, hj, k, hk, l, hl, h⟩ := h
  split at h
  · next distinct =>
    rw [keyerOf_known hi, keyerOf_known hj, keyerOf_known hk, keyerOf_known hl]
    exact (stackOrder_of_nodup i j k l distinct).map fun k => (Keyer.code k).toNat
  · exact nomatch h

theorem readKeySelect_known {k bus src : Byte} {a : Action} (h : readKeySelect [k, bus, src] = some a) :
    (keyerOf k).isSome ∧ bus.toNat ≤ 1 ∧ 1 ≤ src.toNat ∧ src.toNat ≤ 14 := by
  simp only [readKeySelect, Option.bind_eq_bind, Option.bind_eq_some_iff] at h
  obtain ⟨_, keyer, _, toSource, _, source, -⟩ := h
  exact ⟨by simp [keyer], flagOf_known toSource, sourceOf_known source⟩

theorem readKeySetup_known {k m c1 c0 g1 g0 i : Byte} {a : Action} (h : readKeySetup [k, m, c1, c0, g1, g0, i] = some a) :
    (keyerOf k).isSome ∧ m.toNat ≤ 2 ∧ i.toNat ≤ 1 := by
  simp only [readKeySetup, Option.bind_eq_bind, Option.bind_eq_some_iff] at h
  obtain ⟨_, keyer, _, mode, _, invert, -⟩ := h
  exact ⟨by simp [keyer], keyModeOf_known mode, flagOf_known invert⟩

theorem readKeyMask_known {k m l1 l0 r1 r0 t1 t0 b1 b0 : Byte} {a : Action}
    (h : readKeyMask [k, m, l1, l0, r1, r0, t1, t0, b1, b0] = some a) : (keyerOf k).isSome ∧ m.toNat ≤ 2 := by
  simp only [readKeyMask, Option.bind_eq_bind, Option.bind_eq_some_iff] at h
  obtain ⟨_, keyer, _, mode, -⟩ := h
  exact ⟨by simp [keyer], maskModeOf_known mode⟩

theorem readKeyCut_known {k c : Byte} {a : Action} (h : readKeyCut [k, c] = some a) :
    (keyerOf k).isSome ∧ c.toNat ≤ 2 := by
  simp only [readKeyCut, Option.bind_eq_bind, Option.bind_eq_some_iff] at h
  obtain ⟨_, keyer, _, action, -⟩ := h
  exact ⟨by simp [keyer], cutActionOf_known action⟩

/-- STORE and RECALL name a register and at least one part (R125, R128). -/
theorem readRegisterParts_known {r g : Byte} {p : Register × PartSet}
    (h : readRegisterParts [r, f, g, f1, f2, f3, f4] = some p) :
    (1 ≤ r.toNat ∧ r.toNat ≤ 16 ∧ f.toNat ≤ 1 ∧ g.toNat ≤ 1 ∧ f1.toNat ≤ 1 ∧ f2.toNat ≤ 1 ∧ f3.toNat ≤ 1 ∧ f4.toNat ≤ 1) ∧
      ¬ (f = 0 ∧ g = 0 ∧ f1 = 0 ∧ f2 = 0 ∧ f3 = 0 ∧ f4 = 0) := by
  simp only [readRegisterParts, Option.bind_eq_bind, Option.bind_eq_some_iff] at h
  obtain ⟨_, register, _, parts, -⟩ := h
  obtain ⟨low, high⟩ := registerOf_known register
  refine ⟨⟨low, high, ?_⟩, ?_⟩
  · simp only [partSetOf, Option.bind_eq_bind, Option.bind_eq_some_iff] at parts
    obtain ⟨_, h0, _, hg, _, h1, _, h2, _, h3, _, h4, -⟩ := parts
    exact ⟨flagOf_known h0, flagOf_known hg, flagOf_known h1, flagOf_known h2, flagOf_known h3, flagOf_known h4⟩
  · rintro ⟨rfl, rfl, rfl, rfl, rfl, rfl⟩
    have empty : partSetOf 0 0 0 0 0 0 = none := rfl
    rw [empty] at parts
    exact nomatch parts

theorem readRelease_known {c g d : Byte} {p : ReleaseScope × Bool} (h : readRelease [c, g, d] = some p) :
    c.toNat ≤ 2 ∧ d.toNat ≤ 1 ∧ (c = 0 → g.toNat < 8) := by
  simp only [readRelease, Option.bind_eq_bind, Option.bind_eq_some_iff] at h
  obtain ⟨_, drain, h⟩ := h
  have range := flagOf_known drain
  split at h
  · next scope =>
    obtain ⟨_, group, -⟩ := Option.map_eq_some_iff.1 h
    exact ⟨by omega, range, fun _ => groupOf_known group⟩
  · next scope => exact ⟨by omega, range, fun zero => by simp [zero] at scope⟩
  · next scope => exact ⟨by omega, range, fun zero => by simp [zero] at scope⟩
  · exact nomatch h

theorem readSetLink_known {t e r1 r0 g0 g1 g2 g3 g4 g5 g6 g7 r : Byte} {p : Link × LinkAttributes}
    (h : readSetLink [t, e, r1, r0, g0, g1, g2, g3, g4, g5, g6, g7, r] = some p) :
    1 ≤ t.toNat ∧ t.toNat ≤ 4 ∧ e.toNat ≤ 1 ∧ g0.toNat ≤ 1 ∧ g1.toNat ≤ 1 ∧ g2.toNat ≤ 1 ∧ g3.toNat ≤ 1 ∧ g4.toNat ≤ 1 ∧
      g5.toNat ≤ 1 ∧ g6.toNat ≤ 1 ∧ g7.toNat ≤ 1 ∧ r.toNat ≤ 1 := by
  simp only [readSetLink, Option.bind_eq_bind, Option.bind_eq_some_iff] at h
  obtain ⟨_, target, _, enabled, _, h0, _, h1, _, h2, _, h3, _, h4, _, h5, _, h6, _, h7, _, reports, -⟩ := h
  obtain ⟨low, high⟩ := linkOf_known target
  exact ⟨low, high, flagOf_known enabled, flagOf_known h0, flagOf_known h1, flagOf_known h2, flagOf_known h3, flagOf_known h4,
    flagOf_known h5, flagOf_known h6, flagOf_known h7, flagOf_known reports⟩

theorem readAssignStatic_known {g h : Byte} {p : Group × Link} (e : readAssignStatic [g, h] = some p) :
    g.toNat < 8 ∧ 1 ≤ h.toNat ∧ h.toNat ≤ 4 := by
  simp only [readAssignStatic, Option.bind_eq_bind, Option.bind_eq_some_iff] at e
  obtain ⟨_, group, _, link, -⟩ := e
  exact ⟨groupOf_known group, linkOf_known link⟩

theorem readClearLog_known {n : Byte} {p : Option Nat} (h : readClearLog [n] = some p) : n.toNat ≤ 8 := by
  unfold readClearLog at h
  dsimp only at h
  split at h
  · next zero => simp [zero]
  · obtain ⟨_, record, -⟩ := Option.map_eq_some_iff.1 h
    exact (recordOf_known record).2

/-! Refusal. -/

/-- A request whose kind reads no value from its parameters is answered BAD_VALUE before any check of its group (R88). -/
theorem exec_request_badValue {α : Type} (k : Kind) (ps : List Byte) (g : Option Group) {read : List Byte → Option α}
    {valid : α → State → Bool} {run : α → State → State}
    (taken : ∀ t : State, t.takeKind l k tag ps = t.immediate k l tag ps g read valid run)
    (h : s.Serves l) (hl : ps.length + 2 = k.bodyLength) (hr : ∀ a, read ps ≠ some a) :
    exec (k.request l tag ps) s = .next ((s.heard l).refused l tag k.code .badValue g) := by
  rw [exec_request]
  simp only [taken]
  rw [State.onGoodFrame_badValue h hl fun a ha => absurd ha (hr a)]

/-- A keyer number outside 1..4 names no group (R37, log 22). -/
theorem keyerOf_unknown {k : Byte} (h : ¬ (1 ≤ k.toNat ∧ k.toNat ≤ 4)) : keyerOf k = none := by
  cases e : keyerOf k with
  | none => rfl
  | some x =>
    have := keyerOf_known e
    cases x <;> simp [Keyer.code] at this <;> omega

/-- The same for a keyer request, logged with the group of its keyer where the number names one (log 22). -/
theorem exec_keyerRequest_badValue (k : Kind) (ps : List Byte) {g : Option Group} {read : List Byte → Option Action}
    (taken : ∀ t : State, t.takeKind l k tag ps = t.queued k l tag ps (keyerGroupOf ps) read) (group : keyerGroupOf ps = g)
    (h : s.Serves l) (hl : ps.length + 2 = k.bodyLength) (hr : ∀ a, read ps ≠ some a) :
    exec (k.request l tag ps) s = .next ((s.heard l).refused l tag k.code .badValue g) :=
  group ▸ exec_request_badValue k ps _ taken h hl hr

theorem keyerGroupOf_code (k : Keyer) (ps : List Byte) : keyerGroupOf (Keyer.code k :: ps) = some (Keyer.group k) := by
  simp [keyerGroupOf]

theorem keyerGroupOf_unknown {k : Byte} (h : ¬ (1 ≤ k.toNat ∧ k.toNat ≤ 4)) (ps : List Byte) : keyerGroupOf (k :: ps) = none := by
  simp [keyerGroupOf, keyerOf_unknown h]

theorem readRecall_known {r g : Byte} {a : Action} (h : readRecall [r, f, g, f1, f2, f3, f4] = some a) :
    ∃ p, readRegisterParts [r, f, g, f1, f2, f3, f4] = some p := by
  obtain ⟨p, hp, -⟩ := Option.map_eq_some_iff.1 h
  exact ⟨p, hp⟩

theorem readSetFormat_known {a : Action} (h : readSetFormat [b] = some a) : b.toNat ≤ 3 := by
  obtain ⟨_, format, -⟩ := Option.map_eq_some_iff.1 h
  exact formatOf_known format

theorem readSetOutputRange_known {a : Action} (h : readSetOutputRange [b] = some a) : b.toNat ≤ 1 := by
  obtain ⟨_, range, -⟩ := Option.map_eq_some_iff.1 h
  exact rangeOf_known range

/-- Settles O42: each reader answers none outside the values it knows, and the value check stands before those of groups. -/
theorem undefinedValues : Obligations.UndefinedValues := by
  intro s l tag h out flag
  refine ⟨?select, ?nextSet, ?transitionSetup, ?keyOrder, ?keyers, ?keySelect, ?keySetup, ?keyMask, ?keyCut, ?registers, ?erase,
    ?claim, ?release, ?walks, ?readCounters, ?readLog, ?setFormat, ?modes, ?setLink, ?assignStatic, ?unassignStatic, ?clearLog⟩
  case select =>
    exact fun bus src bad => exec_request_badValue .select _ _ (fun _ => rfl) h rfl fun _ e => bad (readSelect_known e)
  case nextSet =>
    intro f f1 f2 f3 f4 bad
    refine exec_request_badValue .nextSet _ _ (fun _ => rfl) h rfl fun _ e => ?_
    obtain ⟨flags, notEmpty⟩ := readNextSet_known e
    exact bad.elim (fun undefined => undefined flags) notEmpty
  case transitionSetup =>
    exact fun t p e1 e0 d1 d0 r x bad => exec_request_badValue .transitionSetup _ _ (fun _ => rfl) h rfl
      fun _ e => bad (readTransitionSetup_known e)
  case keyOrder =>
    exact fun a b c d bad => exec_request_badValue .keyOrder _ _ (fun _ => rfl) h rfl fun _ e => bad (readKeyOrder_known e)
  case keyers =>
    intro k b1 b2 b3 b4 b5 b6 b7 b8 b9 bad
    have unknown : ¬ (keyerOf k).isSome := by simp [keyerOf_unknown bad]
    have group := keyerGroupOf_unknown bad
    exact ⟨exec_keyerRequest_badValue .keySelect _ (fun _ => rfl) (group _) h rfl fun _ e => unknown (readKeySelect_known e).1,
      exec_keyerRequest_badValue .keySetup _ (fun _ => rfl) (group _) h rfl fun _ e => unknown (readKeySetup_known e).1,
      exec_keyerRequest_badValue .keyMask _ (fun _ => rfl) (group _) h rfl fun _ e => unknown (readKeyMask_known e).1,
      exec_keyerRequest_badValue .keyCut _ (fun _ => rfl) (group _) h rfl fun _ e => unknown (readKeyCut_known e).1⟩
  case keySelect =>
    exact fun k bus src bad => exec_keyerRequest_badValue .keySelect _ (fun _ => rfl) (keyerGroupOf_code k _) h rfl
      fun _ e => bad (readKeySelect_known e).2
  case keySetup =>
    exact fun k m c1 c0 g1 g0 i bad => exec_keyerRequest_badValue .keySetup _ (fun _ => rfl) (keyerGroupOf_code k _) h rfl
      fun _ e => bad (readKeySetup_known e).2
  case keyMask =>
    exact fun k m l1 l0 r1 r0 t1 t0 b1 b0 bad => exec_keyerRequest_badValue .keyMask _ (fun _ => rfl) (keyerGroupOf_code k _) h rfl
      fun _ e => absurd (readKeyMask_known e).2 (by omega)
  case keyCut =>
    exact fun k a bad => exec_keyerRequest_badValue .keyCut _ (fun _ => rfl) (keyerGroupOf_code k _) h rfl
      fun _ e => absurd (readKeyCut_known e).2 (by omega)
  case registers =>
    intro k r f g f1 f2 f3 f4 kind bad
    have unread (p) : readRegisterParts [r, f, g, f1, f2, f3, f4] ≠ some p := fun e => by
      obtain ⟨values, notEmpty⟩ := readRegisterParts_known e
      exact bad.elim (fun undefined => undefined values) notEmpty
    rcases kind with rfl | rfl
    · exact exec_request_badValue .store _ _ (fun _ => rfl) h rfl unread
    · refine exec_request_badValue .recallEffects _ _ (fun _ => rfl) h rfl fun _ e => ?_
      obtain ⟨p, hp⟩ := readRecall_known e
      exact unread p hp
  case erase =>
    exact fun r bad => exec_request_badValue .erase _ _ (fun _ => rfl) h rfl fun _ e => bad (registerOf_known e)
  case claim =>
    exact fun g bad => exec_request_badValue .claim _ _ (fun _ => rfl) h rfl fun _ e => absurd (groupOf_known e) (by omega)
  case release =>
    intro c g d bad
    refine exec_request_badValue .release _ _ (fun _ => rfl) h rfl fun _ e => ?_
    obtain ⟨scope, drain, group⟩ := readRelease_known e
    rcases bad with undefined | undefined | ⟨zero, undefined⟩
    · omega
    · exact undefined drain
    · exact absurd (group zero) (by omega)
  case walks =>
    exact fun w bad => ⟨exec_request_badValue .walkMemory _ _ (fun _ => rfl) h rfl fun _ e => bad (flagOf_known e),
      exec_request_badValue .walkHoldings _ _ (fun _ => rfl) h rfl fun _ e => bad (flagOf_known e)⟩
  case readCounters =>
    exact fun t bad => exec_request_badValue .readCounters _ _ (fun _ => rfl) h rfl fun _ e => bad (linkOf_known e)
  case readLog =>
    exact fun n bad => exec_request_badValue .readLog _ _ (fun _ => rfl) h rfl fun _ e => bad (recordOf_known e)
  case setFormat =>
    exact fun f bad => exec_request_badValue .setFormat _ _ (fun _ => rfl) h rfl
      fun _ e => absurd (readSetFormat_known e) (by omega)
  case modes =>
    exact fun m bad => ⟨exec_request_badValue .setOutputRange _ _ (fun _ => rfl) h rfl fun _ e => bad (readSetOutputRange_known e),
      exec_request_badValue .setRephase _ _ (fun _ => rfl) h rfl fun _ e => bad (policyOf_known e)⟩
  case setLink =>
    exact fun t e r1 r0 g0 g1 g2 g3 g4 g5 g6 g7 r bad => exec_request_badValue .setLink _ _ (fun _ => rfl) h rfl
      fun _ e => bad (readSetLink_known e)
  case assignStatic =>
    intro g h' bad
    refine exec_request_badValue .assignStatic _ _ (fun _ => rfl) h rfl fun _ e => ?_
    obtain ⟨group, link⟩ := readAssignStatic_known e
    exact bad.elim (fun undefined => absurd group (by omega)) fun undefined => undefined link
  case unassignStatic =>
    exact fun g bad => exec_request_badValue .unassignStatic _ _ (fun _ => rfl) h rfl
      fun _ e => absurd (groupOf_known e) (by omega)
  case clearLog =>
    exact fun n bad => exec_request_badValue .clearLog _ _ (fun _ => rfl) h rfl
      fun _ e => absurd (readClearLog_known e) (by omega)

end Sys2Proof.Machine
end

section
/-! Cold values, and the application of SELECT, MATTE, SET OUTPUT RANGE and SET FORMAT (R10, R11, R33, R142). -/

namespace Sys2Proof.Machine

/-- Settles O3: the cold tables hold one value in every cell. -/
theorem coldValues : Obligations.ColdValues := by
  refine ⟨⟨rfl, rfl, fun k => ?_, rfl⟩, fun k => ?_, rfl, rfl, ⟨rfl, fun k => ?_⟩, ⟨rfl, rfl, rfl⟩, ⟨rfl, rfl⟩, rfl, rfl, fun i => ?_,
    fun r => ?_, fun g => ?_, fun l => ?_, ⟨rfl, rfl⟩, fun l => ?_, ⟨rfl, rfl, rfl, rfl, rfl, rfl, rfl, rfl⟩, fun l => ?_, rfl, rfl, rfl⟩
  · exact ⟨PerKeyer.get_const _ k, PerKeyer.get_const _ k⟩
  · exact ⟨PerKeyer.get_const _ k, PerKeyer.get_const _ k⟩
  · exact PerKeyer.get_const _ k
  · exact ⟨PerInput.get_const _ i, PerInput.get_const _ i, PerInput.get_const _ i⟩
  · exact congrArg Effects.isEmpty (PerRegister.get_const emptyEffects r)
  · exact PerGroup.get_const _ g
  · exact PerLink.get_const _ l
  · exact ⟨PerLink.get_const _ l, PerLink.get_const _ l⟩
  · exact PerLink.get_const _ l

variable (s : State)

/-- Running means RUN_AUTO or RUN_MANUAL (R57). -/
theorem Bank.running_iff (b : Bank) : b.running = true ↔ b.state ≠ .idle := by
  unfold Bank.running
  split <;> simp_all

theorem Bank.running_idle {b : Bank} (h : b.state = .idle) : b.running = false :=
  Bool.eq_false_iff.2 fun running => b.running_iff.1 running h

theorem State.answerEntry_eq (e : Entry) (data : List Byte) : s.answerEntry e data = s.carriedOut e data := rfl

theorem State.refuseEntry_eq (e : Entry) (reason : Reason) : s.refuseEntry e reason = s.turnedDown e reason := rfl

theorem Bank.select_eq (b : Bank) (bus : BackgroundBus) (src : Source) :
    b.select bus src = { b with a := if bus = .a then src else b.a, b := if bus = .b then src else b.b } := by
  cases bus <;> rfl

theorem BackgroundBus.code_eq (bus : BackgroundBus) : bus.code = if bus = .a then 0 else 1 := by cases bus <;> rfl

theorem OutputRange.code_eq (r : OutputRange) : r.code = if r = .wide then 0 else 1 := by cases r <;> rfl

/-- Settles O29. -/
theorem backgroundApplied : Obligations.BackgroundApplied := by
  intro s sig l tag
  refine ⟨fun bus src => ⟨fun running inSet => ?_, fun free => ?_⟩, fun m => rfl⟩
  · have locked : (s.bank.running && s.bank.nextSet.bkgd) = true := by simp [(s.bank.running_iff).2 running, inSet]
    simp only [State.applyEntry, State.applySelect, locked, if_true, State.refuseEntry_eq]
  · have unlocked : (s.bank.running && s.bank.nextSet.bkgd) = false := by
      rcases free with idle | outside
      · rw [Bank.running_idle idle, Bool.false_and]
      · rw [outside, Bool.and_false]
    simp only [State.applyEntry, State.applySelect, unlocked, Bool.false_eq_true, if_false, State.answerEntry_eq,
      BackgroundBus.code_eq, Bank.select_eq]
    rfl

/-- A change of format (R43, R140, R142): the new state, and a STATUS report where the unit was not in FREE_RUN. -/
theorem State.changeFormat_eq (f : Format) (sig : PerInput InputSignal) :
    let changed : State := { s with
      bank := s.bank.clampMasks f, ports := { s.ports with status := sig.map (evaluateInput f) }
      reference := s.reference.reformat f }
    s.changeFormat f sig = if s.reference.state = .freeRun then changed else changed.postReport changed.statusMessage := by
  intro changed
  have whole : s.changeFormat f sig =
      if .freeRun = s.reference.state ∧ s.reference.eventFlag = s.reference.eventFlag then changed else changed.postStatus := rfl
  rw [whole]
  by_cases free : s.reference.state = .freeRun
  · rw [if_pos free, if_pos ⟨free.symm, rfl⟩]
  · rw [if_neg free, if_neg fun h => free h.1.symm]; rfl

/-- Settles O34. -/
theorem setupApplied : Obligations.SetupApplied := by
  intro s sig l tag
  refine ⟨fun r => ?_, fun f => ⟨fun running => ?_, fun idle same => ?_, fun idle other => ?_⟩⟩
  · simp only [State.applyEntry, State.applySetOutputRange, State.answerEntry_eq, OutputRange.code_eq]
    rfl
  · simp only [State.applyEntry, State.applySetFormat, (s.bank.running_iff).2 running, if_true, State.refuseEntry_eq]
  · have stopped := Bank.running_idle idle
    simp only [State.applyEntry, State.applySetFormat, stopped, Bool.false_eq_true, if_false, same, if_true, State.answerEntry_eq]
  · have stopped := Bank.running_idle idle
    have new : ¬ f = s.reference.format := fun h => other h.symm
    simp only [State.applyEntry, State.applySetFormat, stopped, new, Bool.false_eq_true, if_false, State.answerEntry_eq, State.changeFormat_eq]
    rfl

end Sys2Proof.Machine
end

section
/-! The whole of a frame boundary (R4, R91, R92, R115, R134, R162). -/

namespace Sys2Proof.Machine

variable (s : State) (signals : PerInput InputSignal) (instant : Nat)

/-! What the owed sweep leaves as it was. -/

@[simp] theorem State.takeOwedSweep_ports : s.takeOwedSweep.ports = s.ports := by
  rw [s.takeOwedSweep_eq.1]
@[simp] theorem State.takeOwedSweep_tally : s.takeOwedSweep.tally = s.tally := by
  rw [s.takeOwedSweep_eq.1]
@[simp] theorem State.takeOwedSweep_memory : s.takeOwedSweep.memory = s.memory := by
  rw [s.takeOwedSweep_eq.1]
@[simp] theorem State.takeOwedSweep_reference : s.takeOwedSweep.reference = s.reference := by
  rw [s.takeOwedSweep_eq.1]
@[simp] theorem State.takeOwedSweep_setup : s.takeOwedSweep.setup = s.setup := by
  rw [s.takeOwedSweep_eq.1]
@[simp] theorem State.takeOwedSweep_pending : s.takeOwedSweep.pending = s.pending := by
  rw [s.takeOwedSweep_eq.1]
@[simp] theorem State.takeOwedSweep_attributes : s.takeOwedSweep.arbiter.attributes = s.arbiter.attributes := by
  rw [s.takeOwedSweep_eq.1]
@[simp] theorem State.takeOwedSweep_walk : s.takeOwedSweep.arbiter.walk = s.arbiter.walk := by
  rw [s.takeOwedSweep_eq.1]
@[simp] theorem State.takeOwedSweep_sweepPeriod : s.takeOwedSweep.arbiter.sweepPeriod = s.arbiter.sweepPeriod := by
  rw [s.takeOwedSweep_eq.1]
@[simp] theorem State.takeOwedSweep_sweepCounter : s.takeOwedSweep.arbiter.sweepCounter = s.arbiter.sweepCounter := by
  rw [s.takeOwedSweep_eq.1]

/-- A sweep taken ahead is none that a boundary owes. -/
@[simp] theorem State.takeOwedSweep_ahead : s.takeOwedSweep.arbiter.sweepMark = .ahead ↔ s.arbiter.sweepMark = .ahead := by
  rw [s.takeOwedSweep_eq.1]
  dsimp only
  split
  · next owed => simp [owed]
  · exact Iff.rfl

/-! The count of a boundary (R115, log 8). -/

section
variable (a : Arbiter)

@[simp] theorem Arbiter.countBoundary_attributes : a.countBoundary.attributes = a.attributes := by
  unfold Arbiter.countBoundary; split_ifs <;> rfl

@[simp] theorem Arbiter.countBoundary_walk : a.countBoundary.walk = a.walk := by
  unfold Arbiter.countBoundary; split_ifs <;> rfl

@[simp] theorem Arbiter.countBoundary_sweepPeriod : a.countBoundary.sweepPeriod = a.sweepPeriod := by
  unfold Arbiter.countBoundary; split_ifs <;> rfl

theorem Arbiter.sweepNext_iff : a.sweepNext = true ↔ a.sweepPeriod ≠ 0 ∧ a.sweepPeriod ≤ a.sweepCounter + 1 := by
  simp [Arbiter.sweepNext]

theorem Arbiter.countBoundary_sweepCounter : a.countBoundary.sweepCounter =
    if a.sweepMark = .ahead then a.sweepCounter
    else if a.sweepPeriod ≤ a.sweepCounter + 1 then 0 else a.sweepCounter + 1 := by
  unfold Arbiter.countBoundary
  split
  · rfl
  · split
    · next zero => rw [if_pos (by omega)]
    · next period => simp only [a.sweepNext_iff, period, ne_eq, not_false_eq_true, true_and]; split <;> rfl

theorem Arbiter.countBoundary_sweepMark : a.countBoundary.sweepMark =
    if a.sweepPeriod ≠ 0 ∧ a.sweepPeriod ≤ a.sweepCounter + 1 ∧ a.sweepMark ≠ .ahead then .owed else .none := by
  unfold Arbiter.countBoundary
  split
  · next ahead => rw [if_neg fun h => h.2.2 ahead]
  · next counted =>
    split
    · next zero => rw [if_neg fun h => h.1 zero]
    · next period => simp only [a.sweepNext_iff, period, counted, ne_eq, not_false_eq_true, true_and, and_true]; split <;> rfl

end

/-! What the application of the queue keeps (R91, stage 1). -/

theorem State.kept_applyQueue : s.Kept (s.applyQueue signals) := by
  refine State.applyRounds_keeps (P := s.Kept) (fun t e rest hq kept => kept.trans ?_) _ s (.refl s)
  have taken : t.Kept (t.setQueue rest) :=
    ⟨rfl, rfl, rfl, rfl, rfl, rfl, rfl, rfl, rfl, rfl, rfl, rfl, rfl, rfl, rfl, rfl, by simp [hq],
      fun x hx => hq ▸ List.mem_cons_of_mem e hx⟩
  exact taken.trans (State.kept_applyEntry _ signals e)

/-- As many rounds as the queue has entries empty it. -/
theorem State.applyRounds_queue : ∀ (n : Nat) (s : State), s.queue.length ≤ n → (State.applyRounds signals n s).queue = [] := by
  intro n
  induction n with
  | zero => exact fun s h => List.length_eq_zero_iff.1 (Nat.le_zero.1 h)
  | succ n ih =>
    intro s h
    unfold State.applyRounds
    split
    · assumption
    · next e rest hq =>
      have shorter := (State.kept_applyEntry (s.setQueue rest) signals e).shorter
      rw [hq, List.length_cons] at h
      exact ih _ (shorter.trans (by simp only [State.setQueue_queue]; omega))

theorem State.applyQueue_queue : (s.applyQueue signals).queue = [] := State.applyRounds_queue signals _ s le_rfl

theorem State.changeHoldings_ports (new : PerGroup Holding) :
    (s.changeHoldings new).ports = s.ports ∧ (s.changeHoldings new).reference = s.reference := by
  obtain ⟨moved, -⟩ := s.moveHoldings_eq new noEntry
  unfold State.changeHoldings State.replaceHoldings State.reportHoldings
  split
  · rw [moved]; exact ⟨rfl, rfl⟩
  · simp only [State.postReport, State.postWhere_eq]
    rw [moved]; exact ⟨rfl, rfl⟩

/-- No application but that of a SET FORMAT touches the inputs or the reference unit. -/
theorem State.applyEntry_ports (e : Entry) (other : ∀ f, e.action ≠ .setFormat f) :
    (s.applyEntry signals e).ports = s.ports ∧ (s.applyEntry signals e).reference = s.reference := by
  rcases e with ⟨l, tag, a⟩
  cases a with
  | setFormat f => exact absurd rfl (other f)
  | select => unfold State.applyEntry State.applySelect; dsimp only; split <;> exact ⟨rfl, rfl⟩
  | nextSet => unfold State.applyEntry State.applyNextSet; dsimp only; split <;> exact ⟨rfl, rfl⟩
  | transitionSetup => unfold State.applyEntry State.applyTransitionSetup; dsimp only; split <;> exact ⟨rfl, rfl⟩
  | faderSetup => unfold State.applyEntry State.applyFaderSetup; dsimp only; split <;> exact ⟨rfl, rfl⟩
  | auto => unfold State.applyEntry State.applyAuto; dsimp only; split <;> exact ⟨rfl, rfl⟩
  | keyOrder => unfold State.applyEntry State.applyKeyOrder; dsimp only; split <;> exact ⟨rfl, rfl⟩
  | keyCut => unfold State.applyEntry State.applyKeyCut; dsimp only; split <;> exact ⟨rfl, rfl⟩
  | recallEffects => unfold State.applyEntry State.applyRecall; dsimp only; split_ifs <;> exact ⟨rfl, rfl⟩
  | release scope =>
    unfold State.applyEntry State.applyRelease State.carryOutRelease
    dsimp only
    split
    · exact ⟨rfl, rfl⟩
    · exact s.changeHoldings_ports _
  | matte | cut | keySelect | keySetup | keyMask | setOutputRange => exact ⟨rfl, rfl⟩

/-- The statuses are those of the format in force, by the boundary's own observations (R2, R3, log 7). -/
def State.Evaluated (signals : PerInput InputSignal) (s : State) : Prop :=
  s.ports.status = signals.map (evaluateInput s.reference.format)

theorem State.changeFormat_evaluated (f : Format) : (s.changeFormat f signals).Evaluated signals := by
  unfold State.Evaluated
  rw [s.changeFormat_eq f signals]
  split
  · rfl
  · rw [State.postReport, State.postWhere_eq]; rfl

theorem State.applyEntry_evaluated {s : State} (h : s.Evaluated signals) (e : Entry) :
    (s.applyEntry signals e).Evaluated signals := by
  by_cases format : ∃ f, e.action = .setFormat f
  · obtain ⟨f, hf⟩ := format
    have whole : s.applyEntry signals e = s.applySetFormat e f signals := by simp only [State.applyEntry, hf]
    rw [whole]
    unfold State.applySetFormat
    split_ifs
    · exact h
    · exact h
    · exact s.changeFormat_evaluated signals f
  · obtain ⟨ports, reference⟩ := s.applyEntry_ports signals e (not_exists.1 format)
    unfold State.Evaluated
    rw [ports, reference]
    exact h

theorem State.applyQueue_evaluated {s : State} (h : s.Evaluated signals) : (s.applyQueue signals).Evaluated signals :=
  State.applyRounds_keeps (P := State.Evaluated signals)
    (fun t e rest _ ht => State.applyEntry_evaluated signals (s := t.setQueue rest) ht e) _ s h

/-- A queue without a SET FORMAT leaves the reference unit as it was. -/
theorem State.applyQueue_reference (noFormat : ∀ e ∈ s.queue, ∀ f, e.action ≠ .setFormat f) :
    (s.applyQueue signals).reference = s.reference := by
  refine (State.applyRounds_keeps (P := fun t => t.reference = s.reference ∧ ∀ e ∈ t.queue, e ∈ s.queue)
    (fun t e rest hq ht => ?_) _ s ⟨rfl, fun _ h => h⟩).1
  obtain ⟨reference, entries⟩ := ht
  have front := noFormat e (entries e (hq ▸ List.mem_cons_self))
  have kept := State.kept_applyEntry (t.setQueue rest) signals e
  exact ⟨((t.setQueue rest).applyEntry_ports signals e front).2.trans reference,
    fun x hx => entries x (hq ▸ List.mem_cons_of_mem e (kept.entries x hx))⟩

/-! The whole. -/

/-- FRAME_BOUNDARY (R134, R135). -/
theorem exec_frameBoundary :
    exec (.frameBoundary signals) s =
      .next (if s.setup.phase.isColdReset then s else s.boundary signals s.reference.nextBoundary) := rfl

theorem Phase.isColdReset_iff (p : Phase) : p.isColdReset = true ↔ p = .coldReset := by
  cases p <;> simp [Phase.isColdReset]

/-- What the state with the queue applied keeps of the state before the boundary. -/
theorem State.kept_applied : (s.takeOwedSweep.openBoundary signals instant).Kept (s.applied signals instant) :=
  State.kept_applyQueue _ signals

theorem State.applied_evaluated : (s.applied signals instant).Evaluated signals :=
  State.applyQueue_evaluated signals rfl

theorem State.applied_reference (noFormat : ∀ e ∈ s.queue, ∀ f, e.action ≠ .setFormat f) :
    (s.applied signals instant).reference = s.reference.boundary instant := by
  have entries := s.takeOwedSweep_eq.2
  have opened : (s.takeOwedSweep.openBoundary signals instant).reference = s.reference.boundary instant := by
    simp [State.openBoundary]
  have waiting : ∀ e ∈ (s.takeOwedSweep.openBoundary signals instant).queue, ∀ f, e.action ≠ .setFormat f :=
    fun e he => noFormat e (entries e he)
  rw [State.applied, State.applyQueue_reference _ signals waiting, opened]

/-- The instant of the boundary after one (R134, R139, log 11). -/
theorem ReferenceUnit.nextAfter_eq (u : ReferenceUnit) : u.nextAfter instant =
    if u.state = .locked ∧ ∃ due, u.expected = some due ∧ instant < due then u.expected.getD 0
    else instant + u.format.period := by
  unfold ReferenceUnit.nextAfter
  split
  · next due locked expected => simp [locked, expected]
  · next other =>
    rw [if_neg]
    rintro ⟨locked, due, expected, -⟩
    exact other due locked expected

/-- While running, the end of a boundary posts a STATUS report where the statuses have changed, and nothing else (R4). -/
theorem State.closeBoundary_links (before : PerInput InputStatus) (running : s.setup.phase = .running) (l : Link) :
    (s.closeBoundary before).links.get l =
      if s.takesReports l = true ∧ s.ports.status ≠ before then (s.links.get l).report s.statusMessage else s.links.get l := by
  simp only [State.closeBoundary, running]
  split
  · next same => rw [if_neg fun h => h.2 same]; rfl
  · next changed =>
    have up : (s.setCompositor { s.compositor with blackout := false }).setup.phase.isRunning = true := by
      simp [running, Phase.isRunning]
    simp only [State.postStatus, State.postReport, State.postWhere_eq, State.setLinks_links, PerLink.get_ofFn, up, Bool.true_and,
      Bool.and_true, changed, ne_eq, not_false_eq_true, and_true]
    rfl

/-- The arbiter once the queue has been applied: what the boundary counted, and the attributes and walks as before it. -/
theorem State.applied_arbiter :
    let a := (s.applied signals instant).arbiter
    a.attributes = s.arbiter.attributes ∧ a.walk = s.arbiter.walk ∧ a.sweepPeriod = s.arbiter.sweepPeriod ∧
    a.sweepCounter = (if s.arbiter.sweepMark = .ahead then s.arbiter.sweepCounter
      else if s.arbiter.sweepPeriod ≤ s.arbiter.sweepCounter + 1 then 0 else s.arbiter.sweepCounter + 1) ∧
    a.sweepMark = (if s.arbiter.sweepPeriod ≠ 0 ∧ s.arbiter.sweepPeriod ≤ s.arbiter.sweepCounter + 1 ∧
      s.arbiter.sweepMark ≠ .ahead then .owed else .none) := by
  intro a
  have kept := s.kept_applied signals instant
  have counted : (s.takeOwedSweep.openBoundary signals instant).arbiter = s.takeOwedSweep.arbiter.countBoundary := rfl
  refine ⟨?_, ?_, ?_, ?_, ?_⟩
  · rw [kept.attributes, counted]; simp
  · rw [kept.walk, counted]; simp
  · rw [kept.sweepPeriod, counted]; simp
  · rw [kept.sweepCounter, counted, Arbiter.countBoundary_sweepCounter]; simp
  · rw [kept.sweepMark, counted, Arbiter.countBoundary_sweepMark]; simp

/-- The other blocks once the queue has been applied. -/
theorem State.applied_blocks :
    let a := s.applied signals instant
    a.queue = [] ∧ a.memory = s.memory ∧ a.setup = s.setup ∧ a.pending = s.pending ∧ a.ports.lost = .const [] ∧
    a.reference.frameCount = s.reference.frameCount + 1 ∧ a.reference.lastBoundary = instant := by
  intro a
  have kept := s.kept_applied signals instant
  refine ⟨State.applyQueue_queue _ signals, ?_, ?_, ?_, kept.lost, ?_, kept.lastBoundary⟩
  · rw [kept.memory]; exact s.takeOwedSweep_memory
  · rw [kept.setup]; exact s.takeOwedSweep_setup
  · rw [kept.pending]; exact s.takeOwedSweep_pending
  · rw [kept.frameCount]; exact congrArg (fun u : ReferenceUnit => u.frameCount + 1) s.takeOwedSweep_reference

/-- A boundary while running ends with a STATUS report, after BANK STATE and TALLY, where an input status has changed (R4, log 39). -/
theorem State.boundary_links (running : s.setup.phase = .running) (l : Link) :
    let t := s.boundary signals instant
    let told := ((s.takeOwedSweep.openBoundary signals instant).processBank signals).reportBank s.tally
    t.links.get l = if s.takesReports l = true ∧ t.ports.status ≠ s.ports.status
      then (told.links.get l).report
        (.status ⟨t.reference.state, t.reference.eventFlag, t.ports.status, s.setup.lock, s.setup.record⟩)
      else told.links.get l := by
  intro t told
  have closed : t = told.closeBoundary s.ports.status := by
    rw [← s.takeOwedSweep_ports, show told = ((s.takeOwedSweep.openBoundary signals instant).processBank signals).reportBank
      s.takeOwedSweep.tally by rw [s.takeOwedSweep_tally]]
    rfl
  have reported := State.reportBank_eq ((s.takeOwedSweep.openBoundary signals instant).processBank signals) s.tally
  obtain ⟨attributes, -⟩ := s.applied_arbiter signals instant
  obtain ⟨-, -, setup, -⟩ := s.applied_blocks signals instant
  have told_setup : told.setup = s.setup := (congrArg State.setup reported).trans setup
  have told_attributes : told.arbiter.attributes = s.arbiter.attributes :=
    (congrArg (fun u : State => u.arbiter.attributes) reported).trans attributes
  have takes : told.takesReports l = s.takesReports l := by simp only [State.takesReports, told_attributes]
  have ports : t.ports = told.ports := by rw [closed, State.closeBoundary_eq]
  have reference : t.reference = told.reference := by rw [closed, State.closeBoundary_eq]
  rw [ports, reference, closed, State.closeBoundary_links _ _ (by rw [told_setup, running]), takes, ← told_setup]
  rfl

/-- Settles O27: each clause is that of the state with the queue applied, by the equation of the boundary. -/
theorem boundaryTaken : Obligations.BoundaryTaken := by
  intro s sig
  refine ⟨fun cold => ?_, fun warm => ?_, fun instant => ?_⟩
  · rw [exec_frameBoundary, if_pos ((Phase.isColdReset_iff _).2 cold)]
  · rw [exec_frameBoundary, if_neg fun h => warm ((Phase.isColdReset_iff _).1 h)]
  intro opened applied t
  have whole : t = _ := s.boundary_eq sig instant
  obtain ⟨queue, memory, setup, pending, lost, frameCount, lastBoundary⟩ := s.applied_blocks sig instant
  obtain ⟨attributes, walk, period, counter, mark⟩ := s.applied_arbiter sig instant
  have links := s.boundary_links sig instant
  refine ⟨?_, ?_, ?_, ?_, ?_, ?_, ?_, ?_, fun i => ?_, ?_, ?_, ?_, ?_, ?_, ?_, ?_, ?_, ?_, ?_, ?_, fun noFormat => ?_, ?_, ?_, links⟩
  all_goals rw [whole]
  · rfl
  · exact queue
  · rfl
  · rfl
  · rfl
  · exact frameCount
  · exact lastBoundary
  · exact s.applied_evaluated sig instant
  · exact lost ▸ PerInput.get_const _ i
  · exact memory
  · exact attributes
  · exact walk
  · exact period
  · exact counter
  · exact mark
  · dsimp only
    rw [s.applied_reference sig instant noFormat, ReferenceUnit.boundary, ReferenceUnit.nextAfter_eq]
  · dsimp only
    rw [setup]
    cases s.setup.phase <;> rfl
  · exact pending

end Sys2Proof.Machine
end

section
/-! What no request but WARM RESET touches: the setup unit but for its lock, and the waiting commands. -/

namespace Sys2Proof.Machine

/-- Beyond the frame of `Between`: the setup unit is the same but for its lock, and the same commands wait. -/
structure State.Undisturbed (s t : State) : Prop where
  setup : t.setup = { s.setup with lock := t.setup.lock }
  pending : t.pending = s.pending

namespace State.Undisturbed

theorem of_eq {s t : State} (setup : t.setup = s.setup) (pending : t.pending = s.pending) : s.Undisturbed t :=
  ⟨by rw [setup], pending⟩

theorem refl (s : State) : s.Undisturbed s := of_eq rfl rfl

theorem trans {s t u : State} (a : s.Undisturbed t) (b : t.Undisturbed u) : s.Undisturbed u :=
  ⟨by rw [b.setup, a.setup], b.pending.trans a.pending⟩

end State.Undisturbed

theorem State.Kept.undisturbed {s t : State} (h : s.Kept t) : s.Undisturbed t := .of_eq h.setup h.pending

variable (s : State)

/-! Posting, answering and the checks. -/

theorem State.undisturbed_modifyLink (l : Link) (f : LinkPort → LinkPort) : s.Undisturbed (s.modifyLink l f) := .of_eq rfl rfl

theorem State.undisturbed_setArbiter (v : Arbiter) : s.Undisturbed (s.setArbiter v) := .of_eq rfl rfl

theorem State.undisturbed_refuse (l : Link) (tag kind : Byte) (reason : Reason) (g : Option Group) :
    s.Undisturbed (s.refuse l tag kind reason g) := .of_eq rfl rfl

theorem State.undisturbed_answer (l : Link) (tag : Byte) (k : Kind) (data : List Byte) :
    s.Undisturbed (s.answer l tag k data) := .of_eq rfl rfl

theorem State.undisturbed_touch (l : Link) (g : Group) : s.Undisturbed (s.touch l g) := by
  unfold State.touch
  split <;> exact .of_eq rfl rfl

theorem State.undisturbed_withReplySlot (l : Link) {handle : State → State} (h : ∀ t : State, t.Undisturbed (handle t)) :
    s.Undisturbed (s.withReplySlot l handle) := by
  unfold State.withReplySlot
  split
  · exact s.undisturbed_modifyLink l _
  · exact (s.undisturbed_modifyLink l _).trans (h _)

theorem State.undisturbed_refuseUnreserved (l : Link) (tag kind : Byte) (reason : Reason) (g : Option Group) :
    s.Undisturbed (s.refuseUnreserved l tag kind reason g) :=
  s.undisturbed_withReplySlot l fun t => t.undisturbed_refuse l tag kind reason g

theorem State.undisturbed_admission (l : Link) (tag : Byte) (a : Action) : s.Undisturbed (s.admission l tag a) := by
  unfold State.admission
  split
  · exact s.undisturbed_refuse _ _ _ _ _
  · split_ifs
    · exact s.undisturbed_refuse _ _ _ _ _
    · exact s.undisturbed_refuse _ _ _ _ _
    · have joined : s.Undisturbed (s.setQueue (s.queue ++ [⟨l, tag, a⟩])) := .of_eq rfl rfl
      cases a.group with
      | none => exact joined
      | some g => exact joined.trans (State.undisturbed_touch _ l g)

theorem State.undisturbed_immediate {α : Type} (k : Kind) (l : Link) (tag : Byte) (ps : List Byte) (known : Option Group)
    (read : List Byte → Option α) (valid : α → State → Bool) {run : α → State → State}
    (h : ∀ a (t : State), t.Undisturbed (run a t)) : s.Undisturbed (s.immediate k l tag ps known read valid run) := by
  refine s.undisturbed_withReplySlot l fun t => ?_
  unfold State.checked
  split
  · split
    · exact t.undisturbed_refuse _ _ _ _ _
    · next a _ =>
      split
      · exact h a t
      · exact t.undisturbed_refuse _ _ _ _ _
  · exact t.undisturbed_refuse _ _ _ _ _

theorem State.undisturbed_queued (k : Kind) (l : Link) (tag : Byte) (ps : List Byte) (known : Option Group)
    (read : List Byte → Option Action) : s.Undisturbed (s.queued k l tag ps known read) :=
  s.undisturbed_immediate k l tag ps known read anyValue fun a t => t.undisturbed_admission l tag a

theorem State.undisturbed_groupChecked (k : Kind) (l : Link) (tag : Byte) (g : Group) (lockable : Bool) {run : State → State}
    (h : ∀ t : State, t.Undisturbed (run t)) : s.Undisturbed (s.groupChecked k l tag g lockable run) := by
  unfold State.groupChecked
  split
  · exact s.undisturbed_refuse _ _ _ _ _
  · split
    · exact s.undisturbed_refuse _ _ _ _ _
    · exact h s

theorem State.undisturbed_immediateGroup {α : Type} (k : Kind) (l : Link) (tag : Byte) (ps : List Byte) (g : Group)
    (lockable : Bool) (read : List Byte → Option α) (valid : α → State → Bool) {run : α → State → State}
    (data : α → State → List Byte) (h : ∀ a (t : State), t.Undisturbed (run a t)) :
    s.Undisturbed (s.immediateGroup k l tag ps g lockable read valid run data) :=
  s.undisturbed_immediate k l tag ps _ read valid fun a t => t.undisturbed_groupChecked k l tag g lockable fun u =>
    (h a u).trans ((State.undisturbed_touch _ _ _).trans (State.undisturbed_answer _ _ _ _ _))

/-! Changes of the holdings table and of the reference unit. -/

theorem State.undisturbed_postWhere (want : Link → Bool) (m : Message) : s.Undisturbed (s.postWhere want m) :=
  (s.kept_postWhere want m).undisturbed

theorem State.undisturbed_moveHoldings (new : PerGroup Holding) (also : Entry → Bool) :
    s.Undisturbed (s.moveHoldings new also) := (s.kept_moveHoldings new also).undisturbed

theorem State.undisturbed_changeHoldings (new : PerGroup Holding) : s.Undisturbed (s.changeHoldings new) :=
  (s.kept_changeHoldings new).undisturbed

theorem State.undisturbed_reportHoldings (old : PerGroup Holding) (f : FrameCount) : s.Undisturbed (s.reportHoldings old f) := by
  unfold State.reportHoldings
  split
  · exact .refl s
  · exact s.undisturbed_postWhere _ _

theorem State.undisturbed_updateReference (u : ReferenceUnit) : s.Undisturbed (s.updateReference u) := by
  have set : s.Undisturbed (s.setReference u) := .of_eq rfl rfl
  unfold State.updateReference
  dsimp only
  split
  · exact set
  · exact set.trans (State.undisturbed_postWhere _ _ _)

/-! The requests. -/

theorem State.undisturbed_takeFader (l : Link) (tag : Byte) (ps : List Byte) : s.Undisturbed (s.takeFader l tag ps) := by
  have refused (reason : Reason) (g : Option Group) := s.undisturbed_refuseUnreserved l tag Kind.fader.code reason g
  have accepted (reading : Nat) : s.Undisturbed (s.acceptReading l reading) := by
    refine .trans ?_ (State.undisturbed_touch _ l .trans)
    exact .of_eq rfl rfl
  unfold State.takeFader
  split
  · split
    · exact refused _ _
    · split
      · exact refused _ _
      · split
        · exact refused _ _
        · split
          · exact accepted _
          · exact refused _ _
  · exact refused _ _

theorem State.undisturbed_takeClaim {change : State → PerGroup Holding → State} (h : ∀ (t : State) new, t.Undisturbed (change t new))
    (l : Link) (tag : Byte) (ps : List Byte) : s.Undisturbed (s.takeClaim change l tag ps) := by
  refine s.undisturbed_immediate _ _ _ _ _ _ _ fun g t => ?_
  unfold State.carryOutClaim
  split
  · exact t.undisturbed_refuse _ _ _ _ _
  · split
    · exact t.undisturbed_refuse _ _ _ _ _
    · exact (h t _).trans (State.undisturbed_answer _ _ _ _ _)

theorem State.undisturbed_takeRelease (l : Link) (tag : Byte) (ps : List Byte) : s.Undisturbed (s.takeRelease l tag ps) := by
  refine s.undisturbed_immediate _ _ _ _ _ _ _ fun (scope, drain) t => ?_
  unfold State.carryOutRelease
  dsimp only
  split_ifs
  · exact t.undisturbed_admission l tag _
  · exact t.undisturbed_refuse _ _ _ _ _
  · exact (t.undisturbed_changeHoldings _).trans (State.undisturbed_answer _ _ _ _ _)

theorem State.undisturbed_takeUnassignStatic (l : Link) (tag : Byte) (ps : List Byte) :
    s.Undisturbed (s.takeUnassignStatic l tag ps) := by
  refine s.undisturbed_immediate _ _ _ _ _ _ _ fun g t => t.undisturbed_groupChecked _ _ _ _ _ fun u => ?_
  unfold State.carryOutUnassign
  split
  · exact (u.undisturbed_changeHoldings _).trans ((State.undisturbed_touch _ _ _).trans (State.undisturbed_answer _ _ _ _ _))
  · exact u.undisturbed_refuse _ _ _ _ _
  · exact u.undisturbed_refuse _ _ _ _ _

theorem State.undisturbed_changeLink (l : Link) (a : LinkAttributes) : s.Undisturbed (s.changeLink l a) := by
  have barred : s.Undisturbed (s.setBarred l a.barred) := (s.undisturbed_setArbiter _).trans (State.undisturbed_moveHoldings _ _ _)
  have enabled (t : State) : t.Undisturbed (t.setEnabled l a.enabled) := by
    unfold State.setEnabled
    dsimp only
    split
    · exact (t.undisturbed_setArbiter _).trans ((State.undisturbed_moveHoldings _ _ _).trans (State.undisturbed_modifyLink _ _ _))
    · exact t.undisturbed_setArbiter _
  have reports (t : State) : t.Undisturbed (t.setReports l a.reports) := by
    unfold State.setReports
    dsimp only
    split <;> exact .of_eq rfl rfl
  have ranked (t : State) : t.Undisturbed (t.setRank l a.rank) := t.undisturbed_setArbiter _
  have told := barred.trans <| (enabled _).trans <| (ranked _).trans <| (reports _).trans
    (State.undisturbed_reportHoldings _ s.arbiter.holdings s.reference.frameCount)
  unfold State.changeLink
  dsimp only
  split
  · exact told.trans ((State.undisturbed_setArbiter _ _).trans (State.undisturbed_postWhere _ _ _))
  · exact told

/-- LOCK SETUP changes the lock and no more of the setup unit (R157). -/
theorem State.undisturbed_setLock : s.Undisturbed s.setLock := by
  unfold State.setLock
  split
  · exact .refl s
  · exact .trans (t := s.setSetup { s.setup with lock := true }) ⟨rfl, rfl⟩ (State.undisturbed_postWhere _ _ _)

/-- The request of any kind but WARM RESET. -/
theorem State.undisturbed_takeKind (l : Link) (k : Kind) (tag : Byte) (ps : List Byte) (other : k ≠ .warmReset) :
    s.Undisturbed (s.takeKind l k tag ps) := by
  cases k with
  | warmReset => exact absurd rfl other
  | fader => exact s.undisturbed_takeFader l tag ps
  | claim => exact s.undisturbed_takeClaim State.undisturbed_changeHoldings l tag ps
  | release => exact s.undisturbed_takeRelease l tag ps
  | unassignStatic => exact s.undisturbed_takeUnassignStatic l tag ps
  | store => exact s.undisturbed_immediateGroup _ _ _ _ _ _ _ _ _ fun _ t => .of_eq rfl rfl
  | erase => exact s.undisturbed_immediateGroup _ _ _ _ _ _ _ _ _ fun _ t => .of_eq rfl rfl
  | setRephase => exact s.undisturbed_immediateGroup _ _ _ _ _ _ _ _ _ fun _ t => .of_eq rfl rfl
  | setAging => exact s.undisturbed_immediateGroup _ _ _ _ _ _ _ _ _ fun _ t => .of_eq rfl rfl
  | clearLog => exact s.undisturbed_immediateGroup _ _ _ _ _ _ _ _ _ fun _ t => .of_eq rfl rfl
  | assignStatic => exact s.undisturbed_immediateGroup _ _ _ _ _ _ _ _ _ fun _ t => t.undisturbed_changeHoldings _
  | setLink => exact s.undisturbed_immediateGroup _ _ _ _ _ _ _ _ _ fun (m, a) t => t.undisturbed_changeLink m a
  | lockSetup => exact s.undisturbed_immediateGroup _ _ _ _ _ _ _ _ _ fun _ t => t.undisturbed_setLock
  | clearReferenceFlag =>
    exact s.undisturbed_immediateGroup _ _ _ _ _ _ _ _ _ fun _ t => t.undisturbed_updateReference _
  | queryBank | queryTally | queryStatus | walkMemory | walkHoldings | readCounters | readLog =>
    exact s.undisturbed_immediate _ _ _ _ _ _ _ fun _ t => .of_eq rfl rfl
  | select | matte | nextSet | transitionSetup | faderSetup | auto | cut | keyOrder | keySelect | keySetup | keyMask | keyCut
  | recallEffects | setFormat | setOutputRange => exact s.undisturbed_queued _ _ _ _ _ _

end Sys2Proof.Machine
end

section
/-! Requests as commands: the kind, the link, the tag and the parameters of one, and what its command does. -/

namespace Sys2Proof.Machine

/-- The request a command is, but for a CLAIM, whose company goes to the arbiter and not to the queue (R109). -/
def requestOf : Instr → Option (Kind × Link × Byte × Params)
  | .select l tag params => some (.select, l, tag, params)
  | .matte l tag params => some (.matte, l, tag, params)
  | .nextSet l tag params => some (.nextSet, l, tag, params)
  | .transitionSetup l tag params => some (.transitionSetup, l, tag, params)
  | .faderSetup l tag params => some (.faderSetup, l, tag, params)
  | .auto l tag params => some (.auto, l, tag, params)
  | .cut l tag params => some (.cut, l, tag, params)
  | .keyOrder l tag params => some (.keyOrder, l, tag, params)
  | .keySelect l tag params => some (.keySelect, l, tag, params)
  | .keySetup l tag params => some (.keySetup, l, tag, params)
  | .keyMask l tag params => some (.keyMask, l, tag, params)
  | .keyCut l tag params => some (.keyCut, l, tag, params)
  | .recallEffects l tag params => some (.recallEffects, l, tag, params)
  | .release l tag params => some (.release, l, tag, params)
  | .setFormat l tag params => some (.setFormat, l, tag, params)
  | .setOutputRange l tag params => some (.setOutputRange, l, tag, params)
  | .fader l tag ps => some (.fader, l, tag, ⟨ps, []⟩)
  | .store l tag ps => some (.store, l, tag, ⟨ps, []⟩)
  | .erase l tag ps => some (.erase, l, tag, ⟨ps, []⟩)
  | .queryBank l tag ps => some (.queryBank, l, tag, ⟨ps, []⟩)
  | .queryTally l tag ps => some (.queryTally, l, tag, ⟨ps, []⟩)
  | .queryStatus l tag ps => some (.queryStatus, l, tag, ⟨ps, []⟩)
  | .walkMemory l tag ps => some (.walkMemory, l, tag, ⟨ps, []⟩)
  | .walkHoldings l tag ps => some (.walkHoldings, l, tag, ⟨ps, []⟩)
  | .readCounters l tag ps => some (.readCounters, l, tag, ⟨ps, []⟩)
  | .readLog l tag ps => some (.readLog, l, tag, ⟨ps, []⟩)
  | .setRephase l tag ps => some (.setRephase, l, tag, ⟨ps, []⟩)
  | .setAging l tag ps => some (.setAging, l, tag, ⟨ps, []⟩)
  | .setLink l tag ps => some (.setLink, l, tag, ⟨ps, []⟩)
  | .assignStatic l tag ps => some (.assignStatic, l, tag, ⟨ps, []⟩)
  | .unassignStatic l tag ps => some (.unassignStatic, l, tag, ⟨ps, []⟩)
  | .lockSetup l tag ps => some (.lockSetup, l, tag, ⟨ps, []⟩)
  | .warmReset l tag ps => some (.warmReset, l, tag, ⟨ps, []⟩)
  | .clearLog l tag ps => some (.clearLog, l, tag, ⟨ps, []⟩)
  | .clearReferenceFlag l tag ps => some (.clearReferenceFlag, l, tag, ⟨ps, []⟩)
  | _ => none

/-- The command of a request takes its good frame among those that come together with it (R87); immediate ones come alone. -/
theorem exec_requestOf (s : State) {c : Instr} {k : Kind} {l : Link} {tag : Byte} {params : Params}
    (h : requestOf c = some (k, l, tag, params)) :
    exec c s = .next (s.arrive l params fun s => s.takeKind l k tag params.bytes) := by
  cases c with
  | select | matte | nextSet | transitionSetup | faderSetup | auto | cut | keyOrder | keySelect | keySetup | keyMask |
  keyCut | recallEffects | release | setFormat | setOutputRange =>
    cases h
    rfl
  | fader | store | erase | queryBank | queryTally | queryStatus | walkMemory | walkHoldings | readCounters | readLog |
  setRephase | setAging | setLink | assignStatic | unassignStatic | lockSetup | warmReset | clearLog | clearReferenceFlag =>
    cases h
    exact congrArg Host.Outcome.next (s.arrive_alone _ _ _).symm
  | _ => cases h

end Sys2Proof.Machine
end

section
/-! A reset and the initialisation after it: what every step keeps (R34, R96, R123, R151, R156, R161 to R163). -/

namespace Sys2Proof.Machine

variable {s t : State}

/-! The law by phase. -/

/-- While running the law says that COLD_RESETn is released and that black has ended. -/
theorem State.restartLaw_running (running : s.setup.phase = .running) :
    s.RestartLaw ↔ s.setup.coldLine = false ∧ s.compositor.blackout = false := by
  constructor
  · intro h
    exact ⟨Bool.eq_false_iff.2 fun on => by simpa [running] using h.coldLine.1 on,
      Bool.eq_false_iff.2 fun black => by simpa [running, Phase.followsCold] using h.blackOnlyAfterCold black⟩
  · rintro ⟨released, lit⟩
    constructor <;> simp [running, released, lit, Phase.followsCold]

theorem Phase.isRunning_iff (p : Phase) : p.isRunning = true ↔ p = .running := by cases p <;> simp [Phase.isRunning]

namespace State.RestartLaw

/-- The law reads the setup unit, black, the ports, the queue and the holdings table. -/
theorem of_blocks (h : s.RestartLaw) (setup : t.setup = s.setup) (compositor : t.compositor = s.compositor)
    (links : t.links = s.links) (queue : t.queue = s.queue) (holdings : t.arbiter.holdings = s.arbiter.holdings) : t.RestartLaw := by
  obtain ⟨coldLine, warmLine, black, blackOnly, ports, entries, held, lock⟩ := h
  rw [← setup] at coldLine warmLine lock
  rw [← setup, ← compositor] at black blackOnly
  rw [← setup] at ports entries held
  rw [← links] at ports
  rw [← queue] at entries
  rw [← holdings] at held
  exact ⟨coldLine, warmLine, black, blackOnly, ports, entries, held, lock⟩

/-- Work that leaves the phase, the lines and black alone keeps the law where, amid a restart, it leaves the part at rest. -/
theorem keep (h : s.RestartLaw) (u : s.Undisturbed t) (black : t.compositor.blackout = s.compositor.blackout)
    (rest : s.setup.phase ≠ .running → t.setup.lock = s.setup.lock ∧ (∀ l, t.links.get l = freshPort) ∧ t.queue = [] ∧
      ∀ g l m, t.arbiter.holdings.get g ≠ .acquired l m) : t.RestartLaw := by
  by_cases running : s.setup.phase = .running
  · have kept : t.setup.phase = .running := by rw [u.setup]; exact running
    rw [State.restartLaw_running kept, u.setup, black]
    exact (State.restartLaw_running running).1 h
  · obtain ⟨lock, links, queue, holdings⟩ := rest running
    have setup : t.setup = s.setup := by rw [u.setup, lock]
    exact
      { coldLine := by rw [setup]; exact h.coldLine
        warmLine := by rw [setup]; exact h.warmLine
        black := by rw [setup, black]; exact h.black
        blackOnlyAfterCold := by rw [setup, black]; exact h.blackOnlyAfterCold
        links := fun _ => links
        queue := fun _ => queue
        holdings := fun _ => holdings
        lock := by rw [setup]; exact h.lock }

/-- The same for work done while running alone. -/
theorem keepRunning (h : s.RestartLaw) (running : s.setup.phase = .running) (u : s.Undisturbed t)
    (black : t.compositor = s.compositor) : t.RestartLaw :=
  h.keep u (by rw [black]) fun resting => absurd running resting

/-! Reports, moves of the holdings table and the reference unit. -/

theorem postWhere (h : s.RestartLaw) (want : Link → Bool) (m : Message) : (s.postWhere want m).RestartLaw := by
  refine h.keep (s.undisturbed_postWhere want m) (s.kept_postWhere want m).blackout fun resting => ?_
  have same : s.postWhere want m = s := if_neg fun up => resting ((Phase.isRunning_iff _).1 up)
  rw [same]
  exact ⟨rfl, h.links resting, h.queue resting, h.holdings resting⟩

/-- With nothing waiting, a move of the holdings table withdraws nothing. -/
theorem moveHoldings (h : s.RestartLaw) {new : PerGroup Holding} (also : Entry → Bool)
    (none : s.setup.phase ≠ .running → ∀ g l m, new.get g ≠ .acquired l m) : (s.moveHoldings new also).RestartLaw := by
  have kept := s.kept_moveHoldings new also
  refine h.keep kept.undisturbed kept.blackout fun resting => ?_
  obtain ⟨moved, ports⟩ := s.moveHoldings_eq new also
  have empty := h.queue resting
  refine ⟨by rw [kept.setup], fun l => ?_, ?_, ?_⟩
  · rw [ports, empty, h.links resting l]
    rfl
  · rw [moved, empty]
    rfl
  · rw [moved]
    exact none resting

theorem reportHoldings (h : s.RestartLaw) (old : PerGroup Holding) (f : FrameCount) : (s.reportHoldings old f).RestartLaw := by
  unfold State.reportHoldings
  split
  · exact h
  · exact h.postWhere _ _

theorem updateReference (h : s.RestartLaw) (u : ReferenceUnit) : (s.updateReference u).RestartLaw := by
  have set : (s.setReference u).RestartLaw := h.of_blocks rfl rfl rfl rfl rfl
  unfold State.updateReference
  dsimp only
  split
  · exact set
  · exact set.postWhere _ _

/-- A sweep acquires nothing (R116). -/
theorem sweepHoldings (h : s.RestartLaw) (f : FrameCount) : (s.sweepHoldings f).RestartLaw := by
  refine (h.moveHoldings noEntry fun resting g l m => ?_).reportHoldings _ _
  rw [PerGroup.get_map]
  have held := h.holdings resting g
  cases hg : s.arbiter.holdings.get g with
  | free => nofun
  | static k => nofun
  | acquired k n => exact absurd hg (held k n)

theorem takeOwedSweep (h : s.RestartLaw) : s.takeOwedSweep.RestartLaw := by
  unfold State.takeOwedSweep
  split
  · exact (h.sweepHoldings _).of_blocks rfl rfl rfl rfl rfl
  · exact h

/-! A boundary. -/

/-- Amid a restart there is nothing to apply (R96). -/
theorem applyQueue (h : s.RestartLaw) (signals : PerInput InputSignal) : (s.applyQueue signals).RestartLaw := by
  have kept := s.kept_applyQueue signals
  refine h.keep kept.undisturbed kept.blackout fun resting => ?_
  have same : s.applyQueue signals = s := s.applyRounds_nil signals _ (h.queue resting)
  rw [same]
  exact ⟨rfl, h.links resting, h.queue resting, h.holdings resting⟩

theorem reportBank (h : s.RestartLaw) (before : Tally) : (s.reportBank before).RestartLaw := by
  have told := fun (want want' : Link → Bool) => (h.postWhere want s.bankMessage).postWhere want' s.tallyMessage
  unfold State.reportBank
  exact (told _ _).of_blocks rfl rfl rfl rfl rfl

/-- The end of a boundary ends black and an initialisation; a boundary amid a warm reset from its line leaves the part at rest. -/
theorem closeBoundary (h : s.RestartLaw) (warm : s.setup.phase ≠ .coldReset) (before : PerInput InputStatus) :
    (s.closeBoundary before).RestartLaw := by
  have released : s.setup.coldLine = false := Bool.eq_false_iff.2 fun on => warm (h.coldLine.1 on)
  have whole := s.closeBoundary_eq before
  cases phase : s.setup.phase with
  | coldReset => exact absurd phase warm
  | running | initialising c =>
    rw [State.restartLaw_running (by rw [whole]; simp only [phase]; rfl), whole]
    exact ⟨released, rfl⟩
  | warmReset c =>
    have lit : s.closeBoundary before = s.setCompositor { s.compositor with blackout := false } := by
      simp only [State.closeBoundary, phase]
    have resting : s.setup.phase ≠ .running := by simp [phase]
    rw [lit]
    exact
      { coldLine := h.coldLine
        warmLine := h.warmLine
        black := fun cold => absurd cold warm
        blackOnlyAfterCold := nofun
        links := h.links
        queue := h.queue
        holdings := h.holdings
        lock := h.lock }

theorem boundary (h : s.RestartLaw) (warm : s.setup.phase ≠ .coldReset) (signals : PerInput InputSignal) (instant : Nat) :
    (s.boundary signals instant).RestartLaw := by
  have opened : (s.takeOwedSweep.openBoundary signals instant).RestartLaw := by
    refine h.takeOwedSweep.of_blocks rfl rfl rfl rfl ?_
    show (s.takeOwedSweep.arbiter.countBoundary).holdings = _
    unfold Arbiter.countBoundary
    split_ifs <;> rfl
  have processed : ((s.takeOwedSweep.openBoundary signals instant).processBank signals).RestartLaw :=
    (opened.applyQueue signals).of_blocks rfl rfl rfl rfl rfl
  refine (processed.reportBank _).closeBoundary ?_ _
  obtain ⟨-, -, setup, -⟩ := s.applied_blocks signals instant
  rw [State.reportBank_eq]
  show (s.applied signals instant).setup.phase ≠ _
  rw [setup]
  exact warm

/-! Reference pulses. -/

theorem pulse (h : s.RestartLaw) (warm : s.setup.phase ≠ .coldReset) (instant : Nat) (signals : PerInput InputSignal) :
    (s.pulse instant signals).RestartLaw := by
  have set (u : ReferenceUnit) : (s.setReference u).RestartLaw := h.of_blocks rfl rfl rfl rfl rfl
  have bound (u : ReferenceUnit) : ((s.setReference u).boundary signals instant).RestartLaw := (set u).boundary warm signals instant
  have waiting : (s.pulseWaiting instant signals).RestartLaw := by
    unfold State.pulseWaiting
    dsimp only
    split_ifs
    · exact h.updateReference _
    · refine (h.updateReference _).boundary ?_ signals instant
      rw [(s.undisturbed_updateReference _).setup]
      exact warm
    · exact set _
  have locked (due : Nat) : (s.pulseLocked due instant signals).RestartLaw := by
    unfold State.pulseLocked
    dsimp only
    split_ifs
    · exact bound _
    · exact set _
  unfold State.pulse
  dsimp only
  split
  · exact h.updateReference _
  · split
    · split
      · exact h.updateReference _
      · exact h.updateReference _
      · exact waiting
      · exact locked _
    · split
      · exact h.updateReference _
      · exact h.updateReference _
      · exact h.updateReference _
      · exact h

/-! Good frames. -/

theorem onGoodFrame (h : s.RestartLaw) (l : Link) {handle : State → State}
    (taken : ∀ t : State, t.setup.phase = .running → t.RestartLaw → (handle t).RestartLaw) :
    (s.onGoodFrame l handle).RestartLaw := by
  unfold State.onGoodFrame
  dsimp only
  split
  · next up =>
    have running := (Phase.isRunning_iff _).1 up
    have counted : (s.modifyLink l LinkPort.goodFrame).RestartLaw := h.keepRunning running (s.undisturbed_modifyLink l _) rfl
    split
    · exact taken _ running counted
    · exact counted
  · exact h

end State.RestartLaw

/-! The resets. -/

/-- No ACQUIRED holding outlives a warm reset (R123). -/
theorem Holding.warm_ne_acquired (h : Holding) (l : Link) (m : Bool) : h.warm ≠ .acquired l m := by cases h <;> nofun

/-- A warm reset leaves every link at rest, nothing waiting and nothing held as ACQUIRED (R163). -/
theorem State.warmRestart_atRest (s : State) :
    (∀ l, s.warmRestart.links.get l = freshPort) ∧ s.warmRestart.queue = [] ∧
      ∀ g l m, s.warmRestart.arbiter.holdings.get g ≠ .acquired l m := by
  refine ⟨fun l => PerLink.get_const _ l, rfl, fun g l m => ?_⟩
  have freed : s.warmRestart.arbiter.holdings = s.arbiter.holdings.map Holding.warm := rfl
  rw [freed, PerGroup.get_map]
  exact Holding.warm_ne_acquired _ l m

/-- A warm reset from its line keeps the name of the initialisation it interrupts, and no cold reset begins or ends with it. -/
theorem Phase.warmAsserted_followsCold (p : Phase) : p.warmAsserted.followsCold = p.followsCold := by cases p <;> rfl

theorem Phase.warmAsserted_coldReset (p : Phase) : p.warmAsserted = .coldReset ↔ p = .coldReset := by
  cases p <;> simp [Phase.warmAsserted]

theorem Phase.warmReleased_followsCold (p : Phase) : p.warmReleased.followsCold = p.followsCold := by cases p <;> rfl

theorem Phase.warmReleased_coldReset (p : Phase) : p.warmReleased = .coldReset ↔ p = .coldReset := by
  cases p <;> simp [Phase.warmReleased]

theorem Phase.warmReleased_running (p : Phase) : p.warmReleased = .running ↔ p = .running := by
  cases p <;> simp [Phase.warmReleased]

theorem Phase.warmReleased_ne_warmReset (p : Phase) (c : Bool) : p.warmReleased ≠ .warmReset c := by
  cases p <;> simp [Phase.warmReleased]

/-- After a cold reset: black until a boundary, every block at rest (R34, R162). -/
theorem coldState_restartLaw (warm : Bool) (last next : Nat) (pending : List Instr) :
    (coldState ⟨false, .cold, true, warm, .coldReset⟩ last next pending).RestartLaw where
  coldLine := by simp [coldState]
  warmLine := nofun
  black _ := rfl
  blackOnlyAfterCold _ := rfl
  links _ l := PerLink.get_const _ l
  queue _ := rfl
  holdings _ g l m := by simp [coldState, coldArbiter]
  lock _ := rfl

namespace State.RestartLaw

/-- A warm reset taken from a request. -/
theorem requestedRestart (h : s.RestartLaw) (running : s.setup.phase = .running) : s.requestedRestart.RestartLaw := by
  obtain ⟨released, lit⟩ := (State.restartLaw_running running).1 h
  obtain ⟨links, queue, holdings⟩ := s.warmRestart_atRest
  exact
    { coldLine := by simp [State.requestedRestart, released]
      warmLine := nofun
      black := nofun
      blackOnlyAfterCold := fun black => absurd black (Bool.eq_false_iff.1 lit)
      links := fun _ => links
      queue := fun _ => queue
      holdings := fun _ => holdings
      lock := nofun }

/-- A warm reset taken from its line. -/
theorem lineRestart (h : s.RestartLaw) : s.lineRestart.RestartLaw := by
  obtain ⟨links, queue, holdings⟩ := s.warmRestart_atRest
  exact
    { coldLine := h.coldLine.trans s.setup.phase.warmAsserted_coldReset.symm
      warmLine := fun _ _ => rfl
      black := fun cold => h.black (s.setup.phase.warmAsserted_coldReset.1 cold)
      blackOnlyAfterCold := fun black => s.setup.phase.warmAsserted_followsCold.trans (h.blackOnlyAfterCold black)
      links := fun _ => links
      queue := fun _ => queue
      holdings := fun _ => holdings
      lock := fun cold => h.lock (s.setup.phase.warmAsserted_followsCold.symm.trans cold) }

theorem coldResetReleased (h : s.RestartLaw) {timerDue : Nat} (e : exec (.coldResetReleased timerDue) s = .next t) :
    t.RestartLaw := by
  obtain rfl := Host.Outcome.next.inj e
  split
  · next cold =>
    have phase := (Phase.isColdReset_iff _).1 cold
    have resting : s.setup.phase ≠ .running := by simp [phase]
    exact
      { coldLine := by simp
        warmLine := nofun
        black := nofun
        blackOnlyAfterCold := fun _ => rfl
        links := fun _ => h.links resting
        queue := fun _ => h.queue resting
        holdings := fun _ => h.holdings resting
        lock := fun _ => h.lock (by rw [phase]; rfl) }
  · next warm =>
    have other : s.setup.phase ≠ .coldReset := fun cold => warm ((Phase.isColdReset_iff _).2 cold)
    exact { h with coldLine := ⟨nofun, fun cold => absurd cold other⟩ }

theorem warmResetAsserted (h : s.RestartLaw) (e : exec .warmResetAsserted s = .next t) : t.RestartLaw := by
  obtain rfl := Host.Outcome.next.inj e
  split
  · exact { h with warmLine := fun _ _ => rfl }
  · exact h.lineRestart

theorem warmResetReleased (h : s.RestartLaw) (e : exec .warmResetReleased s = .next t) : t.RestartLaw := by
  obtain rfl := Host.Outcome.next.inj e
  have resting : s.setup.phase.warmReleased ≠ .running → s.setup.phase ≠ .running := mt s.setup.phase.warmReleased_running.2
  exact
    { coldLine := h.coldLine.trans s.setup.phase.warmReleased_coldReset.symm
      warmLine := fun c warm => absurd warm (s.setup.phase.warmReleased_ne_warmReset c)
      black := fun cold => h.black (s.setup.phase.warmReleased_coldReset.1 cold)
      blackOnlyAfterCold := fun black => s.setup.phase.warmReleased_followsCold.trans (h.blackOnlyAfterCold black)
      links := fun r => h.links (resting r)
      queue := fun r => h.queue (resting r)
      holdings := fun r => h.holdings (resting r)
      lock := fun cold => h.lock (s.setup.phase.warmReleased_followsCold.symm.trans cold) }

/-! Requests. -/

theorem takeWarmReset (h : s.RestartLaw) (running : s.setup.phase = .running) (l : Link) (tag : Byte) (ps : List Byte) :
    (s.takeWarmReset l tag ps).RestartLaw := by
  have refused (reason : Reason) (g : Option Group) : (s.refuseUnreserved l tag Kind.warmReset.code reason g).RestartLaw :=
    h.keepRunning running (s.undisturbed_refuseUnreserved _ _ _ _ _) (s.between_refuseUnreserved _ _ _ _ _).compositor
  unfold State.takeWarmReset
  split
  · split
    · exact refused _ _
    · exact h.requestedRestart running
  · exact refused _ _

theorem takeKind (h : s.RestartLaw) (running : s.setup.phase = .running) (l : Link) (k : Kind) (tag : Byte) (ps : List Byte) :
    (s.takeKind l k tag ps).RestartLaw := by
  by_cases warm : k = .warmReset
  · subst warm
    exact h.takeWarmReset running l tag ps
  · exact h.keepRunning running (s.undisturbed_takeKind l k tag ps warm) (s.between_takeKind l k tag ps).compositor

theorem hearKind (h : s.RestartLaw) (l : Link) (k : Kind) (tag : Byte) (ps : List Byte) :
    (s.onGoodFrame l fun s => s.takeKind l k tag ps).RestartLaw :=
  h.onGoodFrame l fun _ running ht => ht.takeKind running l k tag ps

theorem hearFrame (h : s.RestartLaw) (f : RequestFrame) : (s.hearFrame f).RestartLaw := by
  unfold State.hearFrame
  split
  · split
    · exact h.hearKind _ _ _ _
    · exact h
  · exact h

/-- A queued request with those that come together with it. -/
theorem arrive (h : s.RestartLaw) (l : Link) (k : Kind) (tag : Byte) (params : Params) :
    (s.arrive l params fun s => s.takeKind l k tag params.bytes).RestartLaw := by
  have row (frames : List RequestFrame) {u : State} (hu : u.RestartLaw) : (frames.foldl State.hearFrame u).RestartLaw :=
    List.foldlRecOn frames _ hu fun _ hv f _ => hv.hearFrame f
  exact row _ ((row _ h).hearKind l k tag params.bytes)

/-- A request of any kind but CLAIM. -/
theorem request (h : s.RestartLaw) {c : Instr} {r : Kind × Link × Byte × Params} (asked : requestOf c = some r)
    (e : exec c s = .next t) : t.RestartLaw := by
  obtain ⟨k, l, tag, params⟩ := r
  rw [exec_requestOf s asked] at e
  exact Host.Outcome.next.inj e ▸ h.arrive l k tag params

theorem takeBody (h : s.RestartLaw) (l : Link) (body : List Byte) : (s.takeBody l body).RestartLaw := by
  refine h.onGoodFrame l fun t running ht => ?_
  split
  · unfold State.takeRequest
    split
    · exact ht.keepRunning running (t.undisturbed_withReplySlot l fun u => u.undisturbed_refuse _ _ _ _ _)
        (t.between_withReplySlot l fun u => u.between_refuse _ _ _ _ _).compositor
    · exact ht.takeKind running _ _ _ _
  · exact ht
  · exact ht

theorem hearClaim (h : s.RestartLaw) {change : State → PerGroup Holding → State}
    (undisturbed : ∀ (t : State) new, t.Undisturbed (change t new)) (between : ∀ (t : State) new, t.Between (change t new))
    (f : ClaimFrame) : (s.hearClaim change f).RestartLaw :=
  h.onGoodFrame f.link fun t running ht =>
    ht.keepRunning running (t.undisturbed_takeClaim undisturbed _ _ _) (t.between_takeClaim between _ _ _).compositor

theorem claim (h : s.RestartLaw) {l : Link} {tag : Byte} {params : ClaimParams} (e : exec (.claim l tag params) s = .next t) :
    t.RestartLaw := by
  obtain rfl := Host.Outcome.next.inj e
  split
  · exact h.hearClaim State.undisturbed_changeHoldings State.between_changeHoldings _
  · refine reportHoldings ?_ _ _
    exact List.foldlRecOn _ _ h fun _ hu f _ =>
      hu.hearClaim (fun v new => v.undisturbed_moveHoldings new _) (fun v new => v.between_moveHoldings new _) f

/-! The receiver and the transmitter. -/

theorem discardFrame (h : s.RestartLaw) (l : Link) : (s.discardFrame l).RestartLaw := by
  unfold State.discardFrame
  split
  · next up => exact h.keepRunning ((Phase.isRunning_iff _).1 up) (s.undisturbed_modifyLink l _) rfl
  · exact h

theorem receiveByte (h : s.RestartLaw) (running : s.setup.phase = .running) (l : Link) (b : Byte) :
    (s.receiveByte l b).RestartLaw := by
  have moved (r : Receiver) : (s.setReceiver l r).RestartLaw := h.keepRunning running (s.undisturbed_modifyLink l _) rfl
  unfold State.receiveByte
  split
  · split
    · exact moved _
    · exact h
  · split
    · exact moved _
    · exact h.discardFrame l
  · exact moved _
  · split
    · exact h.takeBody l _
    · exact h.discardFrame l

theorem byteReceived (h : s.RestartLaw) {l : Link} {b : Byte} {stopValid : Bool}
    (e : exec (.byteReceived l b stopValid) s = .next t) : t.RestartLaw := by
  obtain rfl := Host.Outcome.next.inj e
  split
  · next up =>
    split
    · exact h.receiveByte ((Phase.isRunning_iff _).1 up) l b
    · unfold State.receiveError
      split
      · exact h
      · exact h.discardFrame l
  · exact h

/-- Work on one port that a port at rest does not notice. -/
theorem modifyLink (h : s.RestartLaw) (l : Link) {f : LinkPort → LinkPort} (fresh : f freshPort = freshPort) :
    (s.modifyLink l f).RestartLaw := by
  refine h.keep (s.undisturbed_modifyLink l f) rfl fun resting => ⟨rfl, fun j => ?_, h.queue resting, h.holdings resting⟩
  rw [State.modifyLink_links, PerLink.get_modify, h.links resting l, h.links resting j, fresh, ite_self]

/-! Sweeps, windows and samples lost. -/

theorem sweep (h : s.RestartLaw) (e : exec .sweep s = .next t) : t.RestartLaw := by
  obtain rfl := Host.Outcome.next.inj e
  split
  · exact h.takeOwedSweep
  · exact h
  · split
    · exact (h.sweepHoldings _).of_blocks rfl rfl rfl rfl rfl
    · exact h

theorem missingPulse (h : s.RestartLaw) (e : exec .missingPulse s = .next t) : t.RestartLaw := by
  obtain rfl := Host.Outcome.next.inj e
  split
  · exact h
  · split
    · exact h
    · exact h.updateReference _

theorem signalLoss (h : s.RestartLaw) {i : Input} {first last : Nat} (e : exec (.signalLoss i first last) s = .next t) :
    t.RestartLaw := by
  obtain rfl := Host.Outcome.next.inj e
  split
  · exact h.of_blocks rfl rfl rfl rfl rfl
  · exact h

end State.RestartLaw

/-- Every command keeps the law. -/
theorem exec_restartLaw (c : Instr) (h : s.RestartLaw) (e : exec c s = .next t) : t.RestartLaw := by
  cases c with
  | frameBoundary signals =>
    obtain rfl := Host.Outcome.next.inj e
    split
    · exact h
    · next warm => exact h.boundary (fun cold => warm ((Phase.isColdReset_iff _).2 cold)) _ _
  | referencePulse instant signals =>
    obtain rfl := Host.Outcome.next.inj e
    split
    · exact h
    · next warm => exact h.pulse (fun cold => warm ((Phase.isColdReset_iff _).2 cold)) _ _
  | sweep => exact h.sweep e
  | missingPulse => exact h.missingPulse e
  | signalLoss i first last => exact h.signalLoss e
  | claim l tag params => exact h.claim e
  | undefinedKind l kind tag ps => exact Host.Outcome.next.inj e ▸ h.takeBody l _
  | disabledLinkFrame l kind tag ps => exact Host.Outcome.next.inj e ▸ h.takeBody l _
  | frameDiscarded l cause => exact Host.Outcome.next.inj e ▸ h.discardFrame l
  | byteGapExpiry l =>
    obtain rfl := Host.Outcome.next.inj e
    split
    · exact h
    · exact h.discardFrame l
  | transmissionBegins l => exact Host.Outcome.next.inj e ▸ h.modifyLink l rfl
  | transmissionEnds l => exact Host.Outcome.next.inj e ▸ h.modifyLink l rfl
  | byteReceived l b stopValid => exact h.byteReceived e
  | coldResetAsserted => exact Host.Outcome.next.inj e ▸ coldState_restartLaw _ _ _ _
  | coldResetReleased timerDue => exact h.coldResetReleased e
  | warmResetAsserted => exact h.warmResetAsserted e
  | warmResetReleased => exact h.warmResetReleased e
  | _ => exact h.request rfl e

/-- Settles O11: a running part enters a restart only by a reset, which puts it at rest; amid a restart no frame is heard, nothing
waits and nothing is held as ACQUIRED, so sweeps, boundaries and pulses leave the part at rest. -/
theorem restartLawKept : Obligations.RestartLawKept := by
  intro s t h e
  unfold step at e
  split at e
  · exact Host.Outcome.next.inj e ▸ h
  · next c rest _ => exact exec_restartLaw c (h.of_blocks (t := { s with pending := rest }) rfl rfl rfl rfl rfl) e

end Sys2Proof.Machine
end

section
/-! The arithmetic of the pictures: the mix (R16, R17), ramps and wipe coefficients (R18 to R20), keys and levels (R21 to R28), and
the pictures composed of them (R29 to R32). -/

namespace Sys2Proof.Machine

/-! The mix. -/

theorem mix_zero (u v : Int) : mix u v 0 = u := by
  unfold mix
  omega

theorem mix_unity (u v : Int) : mix u v 1024 = v := by
  unfold mix
  omega

/-- A mix lies between its operands inclusive (R17). -/
theorem mix_between {u v c : Int} (hc : InUnity c) : min u v ≤ mix u v c ∧ mix u v c ≤ max u v := by
  obtain ⟨low, high⟩ := hc
  unfold mix
  rcases le_total u v with up | down
  · have floor : 0 ≤ (v - u) * c := mul_nonneg (by omega) low
    have ceiling : (v - u) * c ≤ (v - u) * 1024 := mul_le_mul_of_nonneg_left high (by omega)
    omega
  · have floor : (v - u) * 1024 ≤ (v - u) * c := mul_le_mul_of_nonpos_left high (by omega)
    have ceiling : (v - u) * c ≤ 0 := mul_nonpos_of_nonpos_of_nonneg (by omega) low
    omega

/-- Operands and coefficient turned about, the products differ by whole units of 1024 (R17). -/
theorem mix_symm (u v c : Int) : mix u v c = mix v u (1024 - c) := by
  have turned : (u - v) * (1024 - c) = (v - u) * c + (u - v) * 1024 := by ring
  unfold mix
  rw [turned]
  omega

/-- Settles O14. -/
theorem mixLaws : Obligations.MixLaws := by
  intro u v c _ _ _ _ low high
  obtain ⟨above, below⟩ := mix_between (u := u) (v := v) ⟨low, high⟩
  exact ⟨mix_zero u v, mix_unity u v, above, below, mix_symm u v c⟩

/-! The wipe ramps. -/

theorem Format.width_pos (f : Format) : 0 < f.width := by cases f <;> decide

theorem Format.height_pos (f : Format) : 0 < f.height := by cases f <;> decide

/-- A part of a whole in units of 1/1024 stays below 1024. -/
theorem scaled_le {n whole : Nat} (h : n < whole) : n * 1024 / whole ≤ 1023 :=
  Nat.le_of_lt_succ ((Nat.div_lt_iff_lt_mul (by omega)).2 (by omega))

/-- The distance from the centre along a side, in half pixels, does not reach the side. -/
theorem centred_lt {x side : Nat} (h : x < side) : (2 * (x : Int) - (side - 1)).natAbs < side := by omega

theorem wipeRamp_box (f : Format) (x y : Nat) : wipeRamp f .box x y =
    max ((2 * (x : Int) - (f.width - 1)).natAbs * 1024 / f.width) ((2 * (y : Int) - (f.height - 1)).natAbs * 1024 / f.height) := rfl

/-- A ramp lies in 0..1023 at every pixel (R18). -/
theorem wipeRamp_le (f : Format) (p : Pattern) {x y : Nat} (hx : x < f.width) (hy : y < f.height) : wipeRamp f p x y ≤ 1023 := by
  cases p with
  | h => exact scaled_le hx
  | v => exact scaled_le hy
  | box => exact max_le (scaled_le (centred_lt hx)) (scaled_le (centred_lt hy))
  | diag =>
    have across : x * f.height + f.height ≤ f.width * f.height := by
      rw [← Nat.succ_mul]
      exact Nat.mul_le_mul_right _ hx
    have down : y * f.width + f.width ≤ f.width * f.height := by
      rw [← Nat.succ_mul, Nat.mul_comm f.width]
      exact Nat.mul_le_mul_right _ hy
    have wide := f.width_pos
    exact Nat.le_of_lt_succ ((Nat.div_lt_iff_lt_mul (Nat.mul_pos wide f.height_pos)).2 (by omega))

/-- A side has an even number of pixels, so the distance from its centre is odd. -/
theorem centred_odd (f : Format) (x y : Nat) :
    (2 * (x : Int) - (f.width - 1)).natAbs % 2 = 1 ∧ (2 * (y : Int) - (f.height - 1)).natAbs % 2 = 1 := by
  cases f <;> simp only [Format.width, Format.height] <;> omega

/-- The ramp of BOX one half pixel off the centre both ways (log 33). -/
theorem boxCentre (f : Format) : max (1 * 1024 / f.width) (1 * 1024 / f.height) = if f.height = 1080 then 0 else 1 := by
  cases f <;> decide

/-- Settles O15. -/
theorem wipeRamps : Obligations.WipeRamps := by
  intro f x y hx hy
  refine ⟨rfl, rfl, fun dx dy ex ey => ?_, rfl, fun p => wipeRamp_le f p hx hy, fun p r => ?_⟩
  · obtain ⟨oddx, oddy⟩ := centred_odd f x y
    have ramp := wipeRamp_box f x y
    rw [Int.abs_eq_natAbs, Nat.cast_inj] at ex ey
    rw [← ex] at oddx ramp
    rw [← ey] at oddy ramp
    refine ⟨ramp, oddx, oddy, fun atx aty => ?_⟩
    rw [ramp, atx, aty, boxCentre]
  · have range := wipeRamp_le f p hx hy
    cases r
    · exact ⟨range, rfl⟩
    · exact ⟨Nat.sub_le _ _, rfl⟩

/-! The wipe coefficient. -/

theorem wipeCoefficient_hard (w p : Nat) : wipeCoefficient w p 0 = if w < p then 1024 else 0 := rfl

theorem wipeCoefficient_soft (w p : Nat) {e : Nat} (soft : 0 < e) :
    wipeCoefficient w p e = max 0 (min 1024 (((stretched p e : Int) - w) * 1024 / e)) := by
  unfold wipeCoefficient
  rw [if_neg (Nat.pos_iff_ne_zero.1 soft), clampInt_eq _ _ _ (by decide)]

/-- Wholly the second picture where the stretched position is E or more ahead of the ramp. -/
theorem wipeCoefficient_whole {w p e : Nat} (soft : 0 < e) (ahead : w + e ≤ stretched p e) : wipeCoefficient w p e = 1024 := by
  have full : (1024 : Int) ≤ ((stretched p e : Int) - w) * 1024 / e :=
    (Int.le_ediv_iff_mul_le (by omega)).2 (by omega)
  rw [wipeCoefficient_soft w p soft]
  omega

/-- Wholly the first where the ramp has not been reached. -/
theorem wipeCoefficient_none {w p e : Nat} (soft : 0 < e) (behind : stretched p e ≤ w) : wipeCoefficient w p e = 0 := by
  have empty : ((stretched p e : Int) - w) * 1024 / e ≤ 0 := Int.ediv_nonpos_of_nonpos_of_neg (by omega) (by omega)
  rw [wipeCoefficient_soft w p soft]
  omega

theorem wipeCoefficient_start (w e : Nat) : wipeCoefficient w 0 e = 0 := by
  rcases Nat.eq_zero_or_pos e with rfl | soft
  · rw [wipeCoefficient_hard, if_neg (Nat.not_lt_zero w)]
  · exact wipeCoefficient_none soft (by simp [stretched])

theorem wipeCoefficient_end {w : Nat} (h : w ≤ 1023) (e : Nat) : wipeCoefficient w 1024 e = 1024 := by
  rcases Nat.eq_zero_or_pos e with rfl | soft
  · rw [wipeCoefficient_hard, if_pos (by omega)]
  · exact wipeCoefficient_whole soft (by unfold stretched; omega)

/-- Settles O16. -/
theorem wipeCoefficients : Obligations.WipeCoefficients := by
  intro w p e hw _ _
  obtain ⟨low, high⟩ := wipeCoefficient_inUnity w p e
  refine ⟨?_, fun soft q position => ?_, low, high, ?_, ?_⟩
  · rintro rfl
    rw [wipeCoefficient_hard]
    exact ⟨fun reached => if_pos reached, fun ahead => if_neg (Nat.not_lt.2 ahead)⟩
  · subst position
    exact ⟨wipeCoefficient_soft w p soft, wipeCoefficient_whole soft, wipeCoefficient_none soft⟩
  · rintro rfl
    exact wipeCoefficient_start w e
  · rintro rfl
    exact wipeCoefficient_end hw e

/-! Keys. -/

/-- The base key by mode (R23, R24). -/
theorem KeySettings.baseKey_eq (k : KeySettings) (ys : Int) : k.baseKey ys =
    if k.mode = .linear then max 0 (min 1024 ((ys - 64) * 1024 / 876)) else max 0 (min 1024 ((ys - k.clip) * k.gain / 256)) := by
  unfold KeySettings.baseKey
  cases k.mode <;> simp [clampInt_eq]

/-- At or below the clip, or with no gain, nothing is keyed (R23). -/
theorem KeySettings.baseKey_zero (k : KeySettings) {ys : Int} (mode : k.mode ≠ .linear) (off : ys ≤ k.clip ∨ k.gain = 0) :
    k.baseKey ys = 0 := by
  have product : (ys - k.clip) * k.gain ≤ 0 := by
    rcases off with below | noGain
    · exact mul_nonpos_of_nonpos_of_nonneg (by omega) (by omega)
    · simp [noGain]
  rw [k.baseKey_eq, if_neg mode]
  omega

theorem KeySettings.inMask_iff (k : KeySettings) (x y : Nat) :
    k.inMask x y = true ↔ k.left ≤ x ∧ x ≤ k.right ∧ k.top ≤ y ∧ y ≤ k.bottom := by
  simp [KeySettings.inMask, and_assoc]

/-- What the mask keeps (R26). -/
theorem KeySettings.maskKeeps_iff (k : KeySettings) (x y : Nat) : k.maskKeeps x y = true ↔
    k.maskMode = .none ∨ (k.maskMode = .inside ∧ k.inMask x y = true) ∨
      (k.maskMode = .outside ∧ ¬ k.inMask x y = true) := by
  unfold KeySettings.maskKeeps
  cases k.maskMode <;> simp

theorem KeySettings.key_kept {k : KeySettings} {x y : Nat} (ys : Int) (h : k.maskKeeps x y = true) :
    k.key ys x y = if k.invert then 1024 - k.baseKey ys else k.baseKey ys := if_pos h

theorem KeySettings.key_masked {k : KeySettings} {x y : Nat} (ys : Int) (h : ¬ k.maskKeeps x y = true) :
    k.key ys x y = 0 := if_neg h

/-- An effective key is no more than the key and no more than the level (R28). -/
theorem effectiveKey_le {k level : Int} (hk : InUnity k) (hl : InUnity level) :
    effectiveKey k level ≤ k ∧ effectiveKey k level ≤ level := by
  obtain ⟨k0, k1024⟩ := hk
  obtain ⟨l0, l1024⟩ := hl
  have byKey : k * level ≤ k * 1024 := mul_le_mul_of_nonneg_left l1024 k0
  have byLevel : k * level ≤ 1024 * level := mul_le_mul_of_nonneg_right k1024 l0
  unfold effectiveKey
  omega

theorem effectiveKey_unity (k : Int) : effectiveKey k 1024 = k := by
  unfold effectiveKey
  omega

theorem effectiveKey_zero (k : Int) : effectiveKey k 0 = 0 := by simp [effectiveKey]

/-! Levels, layers and backgrounds. -/

theorem Bank.running_eq (b : Bank) : b.running = decide (b.state ≠ .idle) := by
  rw [Bool.eq_iff_iff, b.running_iff, decide_eq_true_iff]

/-- The bus that supplies the key (R22). -/
theorem Bank.keySource_eq (b : Bank) (k : Keyer) :
    b.keySource k = if (b.settings.get k).mode = .selfKey then b.fill.get k else b.source.get k := by
  unfold Bank.keySource
  cases (b.settings.get k).mode <;> rfl

/-- The transition coefficient (R21). -/
theorem Bank.coefficient_eq (b : Bank) (f : Format) (x y : Nat) : b.coefficient f x y =
    if b.setup.type = .mix then (b.position : Int)
    else wipeCoefficient (if b.setup.reverse then 1023 - wipeRamp f b.setup.pattern x y else wipeRamp f b.setup.pattern x y)
      b.position b.setup.softness := by
  unfold Bank.coefficient reversedRamp
  cases b.setup.type <;> rfl

/-- The layer level in program (R27). -/
theorem Bank.layerLevel_eq (b : Bank) (f : Format) (k : Keyer) (x y : Nat) : b.layerLevel f k x y =
    if b.running && b.nextSet.keys.get k then (if b.onAir.get k then 1024 - b.coefficient f x y else b.coefficient f x y)
    else if b.onAir.get k then 1024 else 0 := by
  rw [Bool.and_comm]
  rfl

/-- A keyer shows in preview where just one of its on-air state and the set has it (R31). -/
theorem Bank.previewLevel_eq (b : Bank) (k : Keyer) :
    b.previewLevel k = if b.onAir.get k = b.nextSet.keys.get k then 0 else 1024 := by
  unfold Bank.previewLevel Bank.onAirAfter
  cases b.onAir.get k <;> cases b.nextSet.keys.get k <;> rfl

/-- The output clamp (R32). -/
theorem outputClamp_eq (r : OutputRange) (c : Component) (v : Int) : outputClamp r c v = max r.low (min (r.high c) v) := by
  cases r <;> cases c <;> exact clampInt_eq v _ _ (by decide)

variable (s : State) (raw : RawSamples) (c : Component) (x y : Nat)

/-- The layers in stack order, each key taken from the bus that supplies it (R22, R30). -/
theorem State.layers_eq (level : Keyer → Int) (background : Int) :
    s.layers raw level c x y background = s.bank.stack.foldl (fun out k =>
      mix out (s.deliver raw (s.bank.fill.get k) c x y) ((s.bank.settings.get k).key
        (s.deliver raw (if (s.bank.settings.get k).mode = .selfKey then s.bank.fill.get k else s.bank.source.get k) .y
          (coSite c x) y)
        (coSite c x) y * level k / 1024)) background := by
  simp only [State.layers, State.keySignal, Bank.keySource_eq, effectiveKey]

/-- Settles O17. -/
theorem keySignals : Obligations.KeySignals := by
  refine ⟨fun k ys x y level _ _ l0 l1024 => ?_, fun s raw c x y => ?_⟩
  · intro base inside key
    have whole : InUnity key := k.key_inUnity ys x y
    have isBase : k.baseKey ys = base := k.baseKey_eq ys
    have isInside := k.inMask_iff x y
    have keeps := k.maskKeeps_iff x y
    rw [isInside] at keeps
    obtain ⟨e0, -⟩ := effectiveKey_inUnity whole ⟨l0, l1024⟩
    obtain ⟨byKey, byLevel⟩ := effectiveKey_le whole ⟨l0, l1024⟩
    refine ⟨fun mode out => ?_, fun mode inn => ?_, fun kept => ?_, fun mode off => ?_, whole.1, whole.2, rfl, e0, byKey, byLevel,
      effectiveKey_unity key, effectiveKey_zero key⟩
    · refine KeySettings.key_masked ys fun kept => ?_
      rcases keeps.1 kept with other | ⟨-, inn⟩ | ⟨other, -⟩
      · exact absurd (mode.symm.trans other) nofun
      · exact out inn
      · exact absurd (mode.symm.trans other) nofun
    · refine KeySettings.key_masked ys fun kept => ?_
      rcases keeps.1 kept with other | ⟨other, -⟩ | ⟨-, out⟩
      · exact absurd (mode.symm.trans other) nofun
      · exact absurd (mode.symm.trans other) nofun
      · exact out inn
    · rw [← isBase]
      exact KeySettings.key_kept ys (keeps.2 kept)
    · rw [← isBase]
      exact k.baseKey_zero mode off
  · intro b running col ramp coefficient supplies key level shown lay a background low high program preview
    have isCol : coSite c x = col := coSite_eq c x
    have isRunning : s.bank.running = running := s.bank.running_eq
    have isCoefficient : s.bank.coefficient s.reference.format col y = coefficient := s.bank.coefficient_eq _ _ _
    have isProgram : s.composedProgram raw c x y = program := by
      simp only [State.composedProgram, State.programBackground, Bank.layerLevel_eq, isCol, isRunning, isCoefficient,
        State.layers_eq]
      rfl
    have isPreview : s.composedPreview raw c x y = preview := by
      simp only [State.composedPreview, State.previewBackground, Bank.previewLevel_eq, isCol, State.layers_eq,
        apply_ite (s.deliver raw · c x y)]
      rfl
    refine ⟨isProgram, isPreview, fun lit => ?_⟩
    simp only [State.programSample, State.previewSample, lit, Bool.false_eq_true, if_false, isProgram, isPreview, outputClamp_eq]
    exact ⟨rfl, rfl⟩

/-! A completion. -/

/-- What a bus delivers reads the matte colour alone of the bank (R7). -/
theorem State.deliver_setBank {b : Bank} (h : b.matte = s.bank.matte) (src : Source) :
    (s.setBank b).deliver raw src c x y = s.deliver raw src c x y := by
  cases src with
  | matte => exact congrArg (fun m : Matte => m.sample c) h
  | black | input i => rfl

/-- Layers read the matte, the buses and settings of the keyers and the stack order of the bank. -/
theorem State.layers_setBank {b : Bank} (matte : b.matte = s.bank.matte) (fill : b.fill = s.bank.fill)
    (source : b.source = s.bank.source) (settings : b.settings = s.bank.settings) (stack : b.stack = s.bank.stack)
    (level : Keyer → Int) (background : Int) :
    (s.setBank b).layers raw level c x y background = s.layers raw level c x y background := by
  simp only [State.layers_eq, State.deliver_setBank s raw _ _ _ matte, State.setBank_bank, fill, source, settings, stack]

/-- After a completion every keyer stands in program at the level preview gave it (R31, R65). -/
theorem Bank.completeNotLive_layerLevel (b : Bank) (f : Format) (k : Keyer) (x y : Nat) :
    b.completeNotLive.layerLevel f k x y = b.previewLevel k := by
  have idle : b.completeNotLive.running = false := rfl
  have air : b.completeNotLive.onAir.get k = b.onAirAfter k := PerKeyer.get_ofFn _ k
  simp only [Bank.layerLevel, Bank.previewLevel, idle, air, Bool.and_false, Bool.false_eq_true, if_false]

/-- After a completion the program background is the one preview showed. -/
theorem State.completeNotLive_programBackground :
    (s.setBank s.bank.completeNotLive).programBackground raw c x y = s.previewBackground raw c x y := by
  have idle : s.bank.completeNotLive.running = false := rfl
  simp only [State.programBackground, State.setBank_bank, idle, Bool.false_and, Bool.false_eq_true, if_false,
    State.previewBackground]
  exact State.deliver_setBank s raw c x y rfl _

/-- Of the bank a completion changes nothing that layers read. -/
theorem State.completeNotLive_composedProgram :
    (s.setBank s.bank.completeNotLive).composedProgram raw c x y = s.composedPreview raw c x y := by
  simp only [State.composedProgram, State.composedPreview, State.setBank_bank, Bank.completeNotLive_layerLevel,
    State.completeNotLive_programBackground]
  exact State.layers_setBank s raw c x y rfl rfl rfl rfl rfl _ _

/-- Preview reads nothing of the transition state, P, n, the transition setup and the fader (R31). -/
theorem State.composedPreview_setTransition (state : TransitionState) (p n : Nat) (setup : TransitionSetup) (fader : Fader) :
    (s.setBank { s.bank with state := state, position := p, count := n, setup := setup, fader := fader }).composedPreview
      raw c x y = s.composedPreview raw c x y := by
  refine (State.layers_setBank s raw c x y ?_ ?_ ?_ ?_ ?_ s.bank.previewLevel _).trans
    (congrArg (s.layers raw s.bank.previewLevel c x y) (State.deliver_setBank s raw c x y rfl _)) <;> rfl

/-- Settles O19: program after the completion and preview before it lay the same layers at the same levels over the same
background. -/
theorem completionShowsPreview : Obligations.CompletionShowsPreview := by
  intro s raw c x y
  have output {v w : Int} (h : v = w) : (if s.compositor.blackout then blackSample c else outputClamp s.compositor.range c v) =
      if s.compositor.blackout then blackSample c else outputClamp s.compositor.range c w := by rw [h]
  exact ⟨output (s.completeNotLive_composedProgram raw c x y),
    fun state p n setup fader => output (s.composedPreview_setTransition raw c x y state p n setup fader)⟩

end Sys2Proof.Machine
end

section
/-! Queued requests read back from the bytes of their frames, and those of several links that reach the queue together (R87). -/

namespace Sys2Proof.Machine

/-! The parameters of an action read as the action. -/

theorem clampNat_of_between {v lo hi : Nat} (low : lo ≤ v) (high : v ≤ hi) : clampNat v lo hi = v := by
  rw [clampNat_eq v lo hi (low.trans high)]
  omega

theorem readSelect_params (bus : BackgroundBus) (src : Source) :
    readSelect (Action.params (.select bus src)) = some (.select bus src) := by
  rw [← readSelect_code bus src, ← BackgroundBus.code_eq]
  rfl

theorem readMatte_params {m : Matte} (h : m.InRange) : readMatte (Action.params (.matte m)) = some (.matte m) := by
  obtain ⟨y, y', b, b', r, r'⟩ := h
  simp only [Action.params, twoBytes, List.cons_append, List.nil_append, readMatte]
  rw [number_twoBytes _ (by omega), number_twoBytes _ (by omega), number_twoBytes _ (by omega), clampNat_of_between y y',
    clampNat_of_between b b', clampNat_of_between r r']

theorem readNextSet_params {m : ElementSet} (h : m.Nonempty) : readNextSet (Action.params (.nextSet m)) = some (.nextSet m) :=
  congrArg (Option.map Action.nextSet) (elementSetOf_bytes m h)

theorem readTransitionSetup_params {t : TransitionSetup} (h : t.InRange) :
    readTransitionSetup (Action.params (.transitionSetup t)) = some (.transitionSetup t) := by
  obtain ⟨soft, rate, rate'⟩ := h
  simp only [Action.params, TransitionSetup.bytes, twoBytes, List.cons_append, List.nil_append, readTransitionSetup, typeOf_code,
    patternOf_code, flagOf_bit, Option.bind_eq_bind, Option.bind_some]
  rw [number_twoBytes _ (by omega), number_twoBytes _ (by omega), clampNat_of_between (Nat.zero_le _) soft,
    clampNat_of_between rate rate']

theorem readFaderSetup_params {lower upper weight : Nat} (h : FaderSettingsInRange lower upper weight) :
    readFaderSetup (Action.params (.faderSetup lower upper weight)) = some (.faderSetup lower upper weight) := by
  obtain ⟨l, u, u', w, w'⟩ := h
  simp only [Action.params, twoBytes, List.cons_append, List.nil_append, readFaderSetup]
  rw [number_twoBytes _ (by omega), number_twoBytes _ (by omega), number_twoBytes _ (by omega),
    clampNat_of_between (Nat.zero_le _) l, clampNat_of_between u u', clampNat_of_between w w']

theorem readKeyOrder_codes {i j k m : Keyer} (h : [i, j, k, m].Nodup) :
    readKeyOrder [Keyer.code i, Keyer.code j, Keyer.code k, Keyer.code m] = some (.keyOrder [i, j, k, m]) := by
  simp only [readKeyOrder, keyerOf_code, Option.bind_eq_bind, Option.bind_some, if_pos h]

/-- A stack order names four keyers, each once (R46). -/
theorem StackOrder.four {order : List Keyer} (h : StackOrder order) : ∃ i j k m, order = [i, j, k, m] ∧ [i, j, k, m].Nodup := by
  have once : order.Nodup := h.nodup_iff.2 (by decide)
  match order, h.length_eq, once with
  | [i, j, k, m], _, once => exact ⟨i, j, k, m, rfl, once⟩

theorem readKeySelect_params (k : Keyer) (bus : KeyBus) (src : Source) :
    readKeySelect (Action.params (.keySelect k bus src)) = some (.keySelect k bus src) := by
  rw [← readKeySelect_code k bus src]
  cases bus <;> rfl

theorem readKeySetup_params (k : Keyer) (mode : KeyMode) {clip gain : Nat} (invert : Bool) (hc : clip ≤ 1023)
    (hg : gain ≤ 16383) :
    readKeySetup (Action.params (.keySetup k mode clip gain invert)) = some (.keySetup k mode clip gain invert) := by
  simp only [Action.params, twoBytes, List.cons_append, List.nil_append, readKeySetup, keyerOf_code, keyModeOf_code, flagOf_bit,
    Option.bind_eq_bind, Option.bind_some]
  rw [number_twoBytes _ (by omega), number_twoBytes _ (by omega), clampNat_of_between (Nat.zero_le _) hc,
    clampNat_of_between (Nat.zero_le _) hg]

theorem readKeyMask_params (k : Keyer) (mode : MaskMode) {left right top bottom : Nat} (hl : left < 65536) (hr : right < 65536)
    (ht : top < 65536) (hb : bottom < 65536) :
    readKeyMask (Action.params (.keyMask k mode left right top bottom)) = some (.keyMask k mode left right top bottom) := by
  simp only [Action.params, twoBytes, List.cons_append, List.nil_append, readKeyMask, keyerOf_code, maskModeOf_code,
    Option.bind_eq_bind, Option.bind_some]
  rw [number_twoBytes _ hl, number_twoBytes _ hr, number_twoBytes _ ht, number_twoBytes _ hb]

theorem readRecall_params (r : Register) {p : PartSet} (h : p.isEmpty = false) :
    readRecall (Action.params (.recallEffects r p)) = some (.recallEffects r p) := by
  have read : readRegisterParts (Register.code r :: p.bytes) = some (r, p) := by
    simp only [PartSet.bytes, PerKeyer.toList, Keyer.all, PerKeyer.get, List.map, readRegisterParts, registerOf_code,
      partSetOf_bytes p h, Option.bind_eq_bind, Option.bind_some]
  simp only [readRecall, Action.params, read, Option.map_some]

/-- A drained RELEASE; the group code counts for the scope GROUP alone (R110). -/
theorem readRelease_group (g : Group) : readRelease [0, Group.code g, 1] = some (.group g, true) := by
  simp [readRelease, flagOf]

theorem readRelease_keyers (b : Byte) : readRelease [1, b, 1] = some (.keyers, true) := by simp [readRelease, flagOf]

theorem readRelease_all (b : Byte) : readRelease [2, b, 1] = some (.all, true) := by simp [readRelease, flagOf]

theorem readSetFormat_params (f : Format) : readSetFormat (Action.params (.setFormat f)) = some (.setFormat f) :=
  congrArg (Option.map Action.setFormat) (formatOf_code f)

theorem readSetOutputRange_params (r : OutputRange) :
    readSetOutputRange (Action.params (.setOutputRange r)) = some (.setOutputRange r) :=
  congrArg (Option.map Action.setOutputRange) (rangeOf_code r)

/-! Requests taken as their actions. -/

variable (s : State) (l : Link) (tag : Byte)

/-- A queued request of the right length whose values read reaches its admission. -/
theorem State.queued_read {k : Kind} {ps : List Byte} {g : Option Group} {read : List Byte → Option Action} {a : Action}
    (hl : ps.length + 2 = k.bodyLength) (hr : read ps = some a) :
    s.queued k l tag ps g read = s.withReplySlot l fun t => t.admission l tag a := by
  simp only [State.queued, State.checked, hl, hr, if_true]

/-- A RELEASE that drains reaches its admission (R112). -/
theorem State.takeRelease_drained {ps : List Byte} {scope : ReleaseScope} (hl : ps.length + 2 = Kind.release.bodyLength)
    (hr : readRelease ps = some (scope, true)) :
    s.takeRelease l tag ps = s.withReplySlot l fun t => t.admission l tag (.release scope) := by
  simp only [State.takeRelease, State.immediate, State.checked, hl, hr, anyValue, if_true]

/-- The frame of an action that a link can carry reaches the admission of that action. -/
theorem State.takeKind_sendable {a : Action} (h : a.Sendable) :
    s.takeKind l a.kind tag a.params = s.withReplySlot l fun t => t.admission l tag a := by
  obtain ⟨lawful, carried⟩ := h
  cases a with
  | select bus src => exact s.queued_read l tag rfl (readSelect_params bus src)
  | matte m => exact s.queued_read l tag rfl (readMatte_params lawful)
  | nextSet m => exact s.queued_read l tag rfl (readNextSet_params lawful)
  | transitionSetup t => exact s.queued_read l tag rfl (readTransitionSetup_params lawful)
  | faderSetup lower upper weight => exact s.queued_read l tag rfl (readFaderSetup_params lawful)
  | auto => exact s.queued_read l tag rfl rfl
  | cut => exact s.queued_read l tag rfl rfl
  | keyOrder order =>
    obtain ⟨i, j, k, m, rfl, once⟩ := StackOrder.four lawful
    exact s.queued_read l tag rfl (readKeyOrder_codes once)
  | keySelect k bus src => exact s.queued_read l tag rfl (readKeySelect_params k bus src)
  | keySetup k mode clip gain invert => exact s.queued_read l tag rfl (readKeySetup_params k mode invert lawful.1 lawful.2)
  | keyMask k mode left right top bottom =>
    obtain ⟨hl, hr, ht, hb⟩ := carried
    exact s.queued_read l tag rfl (readKeyMask_params k mode hl hr ht hb)
  | keyCut k action => exact s.queued_read l tag rfl (readKeyCut_code k action)
  | recallEffects r p => exact s.queued_read l tag rfl (readRecall_params r carried)
  | release scope =>
    cases scope with
    | group g => exact s.takeRelease_drained l tag rfl (readRelease_group g)
    | keyers => exact s.takeRelease_drained l tag rfl (readRelease_keyers 0)
    | all => exact s.takeRelease_drained l tag rfl (readRelease_all 0)
  | setFormat f => exact s.queued_read l tag rfl (readSetFormat_params f)
  | setOutputRange r => exact s.queued_read l tag rfl (readSetOutputRange_params r)

theorem Action.kind_isQueued (a : Action) : a.kind.isQueued = true := by cases a <;> rfl

/-- The frame of an entry's request (R145). -/
def Entry.frame (e : Entry) : RequestFrame := ⟨e.link, e.action.kind.code, e.tag, e.action.params⟩

theorem State.hearFrame_frame {e : Entry} (h : e.action.Sendable) :
    s.hearFrame e.frame = s.onGoodFrame e.link fun t => t.withReplySlot e.link fun u => u.admission e.link e.tag e.action := by
  simp only [State.hearFrame, Entry.frame, ofCode_code, e.action.kind_isQueued, if_true, State.takeKind_sendable _ _ _ h]

/-! Requests that reach the queue together. -/

/-- The request of an entry meets every condition of its admission but that there is room (R88). -/
structure State.Ready (s : State) (e : Entry) : Prop where
  sendable : e.action.Sendable
  serves : s.Serves e.link
  mayUse : ∀ g, e.group = some g → s.MayUse e.link g
  unlocked : e.action.lockable = true → s.setup.lock = false

variable {s}

theorem State.Admits.ready {e : Entry} (h : s.Admits e.link e.action) (sendable : e.action.Sendable) : s.Ready e := by
  obtain ⟨serves, mayUse, -, unlocked⟩ := h
  exact ⟨sendable, serves, mayUse, unlocked⟩

/-- With room it is admitted. -/
theorem State.Ready.hearFrame_admitted {e : Entry} (h : s.Ready e) (room : s.queue.length < 16) :
    s.hearFrame e.frame = s.admitted e.link e.tag e.action := by
  rw [s.hearFrame_frame h.sendable, State.onGoodFrame_serves h.serves]
  exact State.admit_reserved e.tag ⟨h.serves, h.mayUse, room, h.unlocked⟩

/-- Without room it is refused with QUEUE_FULL, the checks before it passed (R88). -/
theorem State.Ready.hearFrame_full {e : Entry} (h : s.Ready e) (full : 16 ≤ s.queue.length) :
    s.hearFrame e.frame = (s.heard e.link).refused e.link e.tag e.action.kind.code .queueFull e.group := by
  have passed : ((s.heard e.link).reserved e.link).entryRefusal e.link e.action.group = none := by
    cases hg : e.action.group with
    | none => rfl
    | some g => exact State.groupRefusal_none (s := (s.heard e.link).reserved e.link) (h.mayUse g hg)
  rw [s.hearFrame_frame h.sendable, State.onGoodFrame_serves h.serves, ← State.refuse_reserved]
  simp only [State.admission, passed]
  exact if_pos full

/-- What the admission of one link's request leaves as the checks of another's find it. -/
structure State.Alike (l : Link) (s t : State) : Prop where
  setup : t.setup = s.setup
  attributes : t.arbiter.attributes = s.arbiter.attributes
  holder : ∀ g, t.holder g = s.holder g
  port : t.links.get l = s.links.get l

theorem State.Ready.alike {t : State} {e : Entry} (h : s.Ready e) (a : State.Alike e.link s t) : t.Ready e := by
  obtain ⟨setup, attributes, holder, port⟩ := a
  obtain ⟨sendable, ⟨phase, enabled, slots⟩, mayUse, unlocked⟩ := h
  refine ⟨sendable, ⟨by rw [setup, phase], ?_, by rw [port]; exact slots⟩, fun g hg => ⟨?_, ?_⟩, fun lockable => ?_⟩
  · rw [State.enabled, attributes]
    exact enabled
  · rw [State.barredFrom, attributes]
    exact (mayUse g hg).1
  · rw [holder]
    exact (mayUse g hg).2
  · rw [setup]
    exact unlocked lockable

/-- A mark changes no holder (R105). -/
theorem marked_holder (table : PerGroup Holding) (l : Link) (g j : Group) :
    ((marked table l g).get j).holder = (table.get j).holder := by
  unfold marked
  split
  · next unmarked =>
    rw [PerGroup.get_set]
    split
    · next same =>
      rw [same, unmarked]
      rfl
    · rfl
  · rfl

@[simp] theorem State.admitted_queue (a : Action) : (s.admitted l tag a).queue = s.queue ++ [⟨l, tag, a⟩] := by
  unfold State.admitted
  cases a.group <;> rfl

theorem State.admitted_alike {j : Link} (other : j ≠ l) (a : Action) : State.Alike j s (s.admitted l tag a) := by
  have port : (((s.heard l).reserved l).links).get j = s.links.get j := by
    simp only [State.reserved, State.heard, PerLink.get_set_of_ne _ other]
  unfold State.admitted
  cases a.group with
  | none => exact ⟨rfl, rfl, fun _ => rfl, port⟩
  | some g => exact ⟨rfl, rfl, fun x => marked_holder _ l g x, port⟩

theorem State.refused_alike {j : Link} (other : j ≠ l) (kind : Byte) (reason : Reason) (g : Option Group) :
    State.Alike j s ((s.heard l).refused l tag kind reason g) where
  setup := rfl
  attributes := rfl
  holder _ := rfl
  port := by simp only [State.refused, State.said, State.heard, PerLink.get_set_of_ne _ other]

/-- Requests of different links that all find room are admitted one after another; other links' requests stay ready. -/
theorem State.foldl_hearFrame_admitted : ∀ (es : List Entry) (s : State), (∀ e ∈ es, s.Ready e) →
    es.Pairwise (fun e f => e.link ≠ f.link) → s.queue.length + es.length ≤ 16 →
    let t := es.foldl (fun u e => u.admitted e.link e.tag e.action) s
    (es.map Entry.frame).foldl State.hearFrame s = t ∧ t.queue = s.queue ++ es ∧
      ∀ f : Entry, (∀ e ∈ es, e.link ≠ f.link) → s.Ready f → t.Ready f
  | [], s, _, _, _ => ⟨rfl, by simp, fun _ _ h => h⟩
  | e :: es, s, ready, distinct, room => by
    obtain ⟨apart, distinct⟩ := List.pairwise_cons.1 distinct
    obtain ⟨first, rest⟩ := List.forall_mem_cons.1 ready
    rw [List.length_cons] at room
    have next : ∀ f ∈ es, (s.admitted e.link e.tag e.action).Ready f := fun f hf =>
      (rest f hf).alike (State.admitted_alike _ _ (apart f hf).symm _)
    obtain ⟨heard, queue, others⟩ := State.foldl_hearFrame_admitted es (s.admitted e.link e.tag e.action) next distinct
      (by rw [State.admitted_queue, List.length_append, List.length_singleton]; omega)
    refine ⟨?_, ?_, fun f hf h => ?_⟩
    · rw [List.map_cons, List.foldl_cons, first.hearFrame_admitted (by omega)]
      exact heard
    · rw [List.foldl_cons, queue, State.admitted_queue, List.append_assoc]
      rfl
    · obtain ⟨front, behind⟩ := List.forall_mem_cons.1 hf
      exact others f behind (h.alike (State.admitted_alike _ _ front.symm _))

/-- Requests of different links that find the queue full are refused one after another. -/
theorem State.foldl_hearFrame_full : ∀ (es : List Entry) (s : State), (∀ e ∈ es, s.Ready e) →
    es.Pairwise (fun e f => e.link ≠ f.link) → (es ≠ [] → 16 ≤ s.queue.length) →
    let t := es.foldl (fun u e => (u.heard e.link).refused e.link e.tag e.action.kind.code .queueFull e.group) s
    (es.map Entry.frame).foldl State.hearFrame s = t ∧ t.queue = s.queue
  | [], s, _, _, _ => ⟨rfl, rfl⟩
  | e :: es, s, ready, distinct, full => by
    obtain ⟨apart, distinct⟩ := List.pairwise_cons.1 distinct
    obtain ⟨first, rest⟩ := List.forall_mem_cons.1 ready
    have crowded := full (List.cons_ne_nil e es)
    have next : ∀ f ∈ es, ((s.heard e.link).refused e.link e.tag e.action.kind.code .queueFull e.group).Ready f := fun f hf =>
      (rest f hf).alike (State.refused_alike _ _ (apart f hf).symm _ _ _)
    obtain ⟨heard, queue⟩ := State.foldl_hearFrame_full es _ next distinct fun _ => crowded
    refine ⟨?_, queue⟩
    rw [List.map_cons, List.foldl_cons, first.hearFrame_full crowded]
    exact heard

/-- A drained RELEASE that the checks let in is admitted (R112). -/
theorem exec_release_drained {ps : List Byte} {scope : ReleaseScope} (h : s.Admits l (.release scope))
    (hl : ps.length + 2 = Kind.release.bodyLength) (hr : readRelease ps = some (scope, true)) :
    exec (.release l tag ⟨ps, []⟩) s = .next (s.admitted l tag (.release scope)) := by
  have taken := exec_request .release l tag ps s
  simp only [State.takeKind, State.takeRelease_drained _ l tag hl hr] at taken
  rw [State.onGoodFrame_serves h.1, State.admit_reserved tag h] at taken
  exact taken

/-- Settles O39. -/
theorem otherRequestsAdmitted : Obligations.OtherRequestsAdmitted := by
  refine ⟨fun s es first last admits ascending split room fills => ?_, fun s l tag => ⟨fun r p parts h => ?_, fun g h => ?_,
    fun b h => ?_, fun b h => ?_, fun f h => ?_, fun r h => ?_⟩⟩
  · intro frame admitted t
    subst split
    have ready : ∀ e ∈ first ++ last, s.Ready e := fun e he => (admits e he).2.ready (admits e he).1
    have distinct : (first ++ last).Pairwise fun e f => e.link ≠ f.link :=
      ascending.imp fun below same => absurd below (by rw [same]; exact lt_irrefl _)
    obtain ⟨distinctFirst, distinctLast, apart⟩ := List.pairwise_append.1 distinct
    obtain ⟨heardFirst, queueFirst, others⟩ := State.foldl_hearFrame_admitted first s
      (fun e he => ready e (List.mem_append_left _ he)) distinctFirst room
    obtain ⟨heardLast, queueLast⟩ := State.foldl_hearFrame_full last admitted
      (fun e he => others e (fun f hf => apart f hf e he) (ready e (List.mem_append_right _ he))) distinctLast
      (fun left => by rw [queueFirst, List.length_append]; exact (fills left).ge)
    refine ⟨queueLast.trans queueFirst, fun e rest listed => ?_⟩
    have up : ((first ++ last).map Entry.frame).Pairwise fun f g => (Link.code f.link).toNat < (Link.code g.link).toNat :=
      List.pairwise_map.2 ascending
    have taken := exec_together_ascending _ s up e.action.kind e.action.kind_isQueued e.link e.tag e.action.params (rest.map frame)
      (listed.map Entry.frame)
    rw [taken, List.map_append, List.foldl_append, heardFirst, heardLast]
  · exact exec_request_admitted (k := .recallEffects) (fun _ => rfl) h rfl (readRecall_params r parts)
  · exact exec_release_drained l tag h rfl (readRelease_group g)
  · exact exec_release_drained l tag h rfl (readRelease_keyers b)
  · exact exec_release_drained l tag h rfl (readRelease_all b)
  · exact exec_request_admitted (k := .setFormat) (fun _ => rfl) h rfl (readSetFormat_params f)
  · exact exec_request_admitted (k := .setOutputRange) (fun _ => rfl) h rfl (readSetOutputRange_params r)

end Sys2Proof.Machine
end

section
/-! The requests of TRANS admitted (R47, R51, R54, R58, R62, R75), and the application of the transition settings and of the keyer
requests (R38, R40, R42, R45, R47, R52, R55, R76). -/

namespace Sys2Proof.Machine

/-! Admission. -/

theorem readTransitionSetup_words (type : TransitionType) (pattern : Pattern) (e d : Word16) (reverse flipFlop : Bool) :
    readTransitionSetup ([type.code, pattern.code] ++ e.bytes ++ d.bytes ++ [bit reverse, bit flipFlop]) =
      some (.transitionSetup { type := type, pattern := pattern, softness := min e.toNat 256,
                               rate := max 1 (min d.toNat 999), reverse := reverse, flipFlop := flipFlop }) := by
  simp [readTransitionSetup, Word16.bytes, clampNat_eq]

theorem readFaderSetup_words (lo up w : Word16) :
    readFaderSetup (lo.bytes ++ up.bytes ++ w.bytes) =
      some (.faderSetup (min lo.toNat 1023) (max 3072 (min up.toNat 4095)) (max 1 (min w.toNat 16))) := by
  simp [readFaderSetup, Word16.bytes, clampNat_eq]

/-- Settles O38. -/
theorem transitionRequestsAdmitted : Obligations.TransitionRequestsAdmitted := by
  intro s l tag
  refine ⟨fun m nonempty h => ?_, fun type pattern e d reverse flipFlop h => ?_, fun lo up w h => ?_, fun h => ?_, fun h => ?_,
    fun i j k m once h => ?_⟩
  · exact exec_request_admitted (k := .nextSet) (fun _ => rfl) h rfl (readNextSet_params nonempty)
  · exact exec_request_admitted (k := .transitionSetup) (fun _ => rfl) h rfl
      (readTransitionSetup_words type pattern e d reverse flipFlop)
  · exact exec_request_admitted (k := .faderSetup) (fun _ => rfl) h rfl (readFaderSetup_words lo up w)
  · exact exec_request_admitted (k := .auto) (fun _ => rfl) h rfl rfl
  · exact exec_request_admitted (k := .cut) (fun _ => rfl) h rfl rfl
  · exact exec_request_admitted (k := .keyOrder) (fun _ => rfl) h rfl (readKeyOrder_codes once)

/-! Application. Each equation has one test, whether a transition runs, or runs with the keyer in its set. -/

section

variable (s : State) (e : Entry)

theorem State.applyNextSet_eq (m : ElementSet) : s.applyNextSet e m =
    if s.bank.running then s.turnedDown e .transitionActive
    else State.carriedOut { s with bank := { s.bank with nextSet := m } } e
      ([m.bkgd, m.keys.k1, m.keys.k2, m.keys.k3, m.keys.k4].map bit) := rfl

theorem State.applyTransitionSetup_eq (u : TransitionSetup) : s.applyTransitionSetup e u =
    if s.bank.running then s.turnedDown e .transitionActive
    else State.carriedOut { s with bank := { s.bank with setup := u } } e
      ([u.type.code, u.pattern.code] ++ twoBytes u.softness ++ twoBytes u.rate ++ [bit u.reverse, bit u.flipFlop]) := rfl

theorem State.applyKeyOrder_eq (order : List Keyer) : s.applyKeyOrder e order =
    if s.bank.running then s.turnedDown e .transitionActive
    else State.carriedOut { s with bank := { s.bank with stack := order } } e (order.map Keyer.code) := rfl

theorem State.applyFaderSetup_eq (lo up w : Nat) : s.applyFaderSetup e lo up w =
    if s.bank.running then s.turnedDown e .transitionActive
    else State.carriedOut { s with bank := { s.bank with fader := { s.bank.fader with lower := lo, upper := up, weight := w } } } e
      (twoBytes lo ++ twoBytes up ++ twoBytes w) := rfl

theorem State.applyKeyCut_eq (k : Keyer) (action : CutAction) : s.applyKeyCut e k action =
    if s.bank.running && s.bank.nextSet.keys.get k then s.turnedDown e .transitionActive
    else State.carriedOut { s with bank := { s.bank with onAir := s.bank.onAir.set k (action.result (s.bank.onAir.get k)) } } e
      [Keyer.code k, bit (action.result (s.bank.onAir.get k))] := rfl

end

/-- Settles O30: the four settings have one condition, that no transition runs. -/
theorem transitionSettingsApplied : Obligations.TransitionSettingsApplied := by
  intro s sig l tag
  refine ⟨fun running => ?_, fun idle => ?_⟩
  · have moving : s.bank.running = true := s.bank.running_iff.2 running
    refine ⟨fun m => ?_, fun u => ?_, fun o => ?_, fun lo up w => ?_⟩
    · exact (s.applyNextSet_eq _ m).trans (if_pos moving)
    · exact (s.applyTransitionSetup_eq _ u).trans (if_pos moving)
    · exact (s.applyKeyOrder_eq _ o).trans (if_pos moving)
    · exact (s.applyFaderSetup_eq _ lo up w).trans (if_pos moving)
  · have still : ¬ s.bank.running = true := fun moving => s.bank.running_iff.1 moving idle
    refine ⟨fun m => ?_, fun u => ?_, fun o => ?_, fun lo up w => ?_⟩
    · exact (s.applyNextSet_eq _ m).trans (if_neg still)
    · exact (s.applyTransitionSetup_eq _ u).trans (if_neg still)
    · exact (s.applyKeyOrder_eq _ o).trans (if_neg still)
    · exact (s.applyFaderSetup_eq _ lo up w).trans (if_neg still)

/-- Settles O32: only KEY CUT has a condition, that no transition runs with its keyer in the set. -/
theorem keyersApplied : Obligations.KeyersApplied := by
  intro s sig l tag k kept
  refine ⟨fun src => rfl, fun src => rfl, fun mode clip gain inv => rfl, fun mode left right top bottom => rfl,
    fun action => ⟨fun running inSet => ?_, fun free => ?_⟩⟩
  · have locked : (s.bank.running && s.bank.nextSet.keys.get k) = true := by simp [s.bank.running_iff.2 running, inSet]
    exact (s.applyKeyCut_eq _ k action).trans (if_pos locked)
  · have unlocked : ¬ (s.bank.running && s.bank.nextSet.keys.get k) = true := by
      rcases free with idle | outside
      · simp [Bank.running_idle idle]
      · simp [outside]
    exact (s.applyKeyCut_eq _ k action).trans (if_neg unlocked)

end Sys2Proof.Machine
end

section
/-! The queries, READ COUNTERS and READ LOG (R48, R85, R99, R143, R147, R155, R159). -/

namespace Sys2Proof.PerLink

/-- Changes of two cells, or of one by functions that commute, come in either order. -/
theorem modify_comm {α : Type} (t : PerLink α) (i j : Link) {f g : α → α} (comm : ∀ x, f (g x) = g (f x)) :
    (t.modify i g).modify j f = (t.modify j f).modify i g := by
  apply ext_get
  intro x
  by_cases same : i = j
  · subst same
    by_cases here : x = i <;> simp [get_modify, here, comm]
  · by_cases here : x = j
    · have other : j ≠ i := fun e => same e.symm
      simp [get_modify, here, other]
    · simp [get_modify, here, same]

end Sys2Proof.PerLink

namespace Sys2Proof.Machine

variable {s : State} {l : Link} {tag : Byte}

/-! Requests of no group, carried out at their arrival and answered. -/

/-- A served request of no group whose values read is carried out with a reply slot reserved, whatever the holdings. -/
theorem exec_groupless {α : Type} {k : Kind} {ps : List Byte} {read : List Byte → Option α} {run : α → State → State} {a : α}
    (taken : ∀ t : State, t.takeKind l k tag ps = t.immediate k l tag ps none read anyValue run) (h : s.Serves l)
    (hl : ps.length + 2 = k.bodyLength) (hr : read ps = some a) :
    exec (k.request l tag ps) s = .next (run a ((s.heard l).reserved l)) := by
  rw [exec_request]
  simp only [taken]
  rw [State.onGoodFrame_immediate h hl hr rfl]

/-- One that only answers: its data are those of the state as the request finds it. -/
theorem exec_query {α : Type} {k : Kind} {ps data : List Byte} {read : List Byte → Option α} {a : α}
    {answer : α → State → List Byte}
    (taken : ∀ t : State, t.takeKind l k tag ps =
      t.immediate k l tag ps none read anyValue fun a t => t.answer l tag k (answer a t))
    (h : s.Serves l) (hl : ps.length + 2 = k.bodyLength) (hr : read ps = some a)
    (hd : answer a ((s.heard l).reserved l) = data) :
    exec (k.request l tag ps) s = .next ((s.heard l).said l (.done tag k.code data)) := by
  rw [exec_groupless taken h hl hr, hd, State.answer_reserved]

/-! QUERY BANK. -/

theorem TransitionType.code_eq (t : TransitionType) : t.code = if t = .mix then 0 else 1 := by cases t <;> rfl

theorem Direction.code_eq (d : Direction) : d.code = if d = .up then 0 else 1 := by cases d <;> rfl

/-- The answer with the records of the four keyers written one after another (R147). -/
theorem bankBytes_eq (b : Bank) (r : OutputRange) : bankBytes b r =
    [Source.code b.a, Source.code b.b]
      ++ [Source.code (b.fill.get .K1), Source.code (b.source.get .K1), Source.code (b.fill.get .K2), Source.code (b.source.get .K2),
          Source.code (b.fill.get .K3), Source.code (b.source.get .K3), Source.code (b.fill.get .K4), Source.code (b.source.get .K4)]
      ++ twoBytes b.matte.y ++ twoBytes b.matte.cb ++ twoBytes b.matte.cr ++ [r.code]
      ++ keyerBytes (b.settings.get .K1) (b.onAir.get .K1) ++ keyerBytes (b.settings.get .K2) (b.onAir.get .K2)
      ++ keyerBytes (b.settings.get .K3) (b.onAir.get .K3) ++ keyerBytes (b.settings.get .K4) (b.onAir.get .K4)
      ++ b.stack.map Keyer.code ++ [b.state.code] ++ twoBytes b.position ++ twoBytes b.count
      ++ b.setup.bytes ++ b.nextSet.bytes ++ b.fader.bytes := by
  simp [bankBytes, Keyer.all]

/-! READ COUNTERS. -/

/-- A change of a port that the reservation of a slot does not meet may come before it. -/
theorem State.modifyLink_reserved (s : State) (l j : Link) {f : LinkPort → LinkPort} (apart : ∀ p, f p.reserve = (f p).reserve) :
    (s.reserved l).modifyLink j f = (s.modifyLink j f).reserved l := by
  simp only [State.reserved_eq, State.modifyLink, State.setLinks, PerLink.modify_comm _ _ _ apart]

theorem State.reserved_counters (s : State) (l j : Link) :
    (((s.reserved l).links).get j).counters = (s.links.get j).counters := by
  simp only [State.reserved, PerLink.get_set]
  split
  · next same => rw [same]
  · rfl

/-- READ COUNTERS answers the counters of its target as they stand, this frame counted, and zeroes them. -/
theorem exec_readCounters (h : s.Serves l) (target : Link) :
    exec (.readCounters l tag [Link.code target]) s =
      .next (((s.heard l).modifyLink target fun p => { p with counters := zeroCounters }).said l
        (.done tag 0x2D (Link.code target :: ((s.heard l).links.get target).counters.bytes))) := by
  refine (exec_groupless (k := .readCounters) (ps := [Link.code target]) (fun _ => rfl) h rfl (linkOf_code target)).trans ?_
  have zeroed := (s.heard l).modifyLink_reserved l target (f := fun p => { p with counters := zeroCounters }) fun _ => rfl
  rw [zeroed, State.answer_reserved, State.reserved_counters]
  rfl

/-! READ LOG. -/

theorem recordOf_byteOf {n : Nat} (low : 1 ≤ n) (high : n ≤ 8) : recordOf (byteOf n) = some n := by
  have value : (byteOf n).toNat = n := by simp only [byteOf, BitVec.toNat_ofNat]; omega
  simp only [recordOf, value]
  exact if_pos ⟨low, high⟩

theorem RefusalLog.record_eq {g : RefusalLog} {n : Nat} {r : Option LogRecord} (h : g.records[n - 1]? = some r) :
    g.record n = r := by
  simp [RefusalLog.record, h]

/-- READ LOG of any record answers it as the log stands. -/
theorem exec_readLog (h : s.Serves l) {n : Nat} (low : 1 ≤ n) (high : n ≤ 8) {r : Option LogRecord}
    (hr : s.log.records[n - 1]? = some r) :
    exec (.readLog l tag [byteOf n]) s = .next ((s.heard l).said l (.done tag 0x2E (logAnswer n r s.log.overflow))) :=
  exec_query (k := .readLog) (fun _ => rfl) h rfl (recordOf_byteOf low high)
    (congrArg (logAnswer n · s.log.overflow) (RefusalLog.record_eq hr))

/-- Settles O52: every query answers from the state its frame leaves, in which nothing but the port of its link has changed. -/
theorem queries : Obligations.Queries := by
  refine ⟨fun k m air air' words same => keyerBytes_inj (words k (by simp)) (words m (by simp)) same, fun s l tag h => ?_⟩
  intro t
  refine ⟨?bank, ?tally, ?status, fun target => ?counters, fun n low high => ⟨fun r hr => ?_, fun hr => ?_⟩⟩
  case bank =>
    intro b record data
    have items : bankBytes b s.compositor.range = data := by
      rw [bankBytes_eq, OutputRange.code_eq]
      simp only [TransitionSetup.bytes, Fader.bytes, TransitionType.code_eq, Direction.code_eq, ← List.append_assoc]
      rfl
    refine ⟨exec_query (k := .queryBank) (fun _ => rfl) h rfl rfl items, fun order => ?_⟩
    rw [← items]
    simp only [Message.body, List.length_cons, bankBytes_length b _ order]
    split <;> rfl
  case tally => exact exec_query (k := .queryTally) (fun _ => rfl) h rfl rfl rfl
  case status => exact exec_query (k := .queryStatus) (fun _ => rfl) h rfl rfl rfl
  case counters => exact exec_readCounters h target
  · exact exec_readLog h low high hr
  · exact exec_readLog h low high hr

end Sys2Proof.Machine
end

section
/-! The course of a transition by AUTO or CUT: its steps, the acts of its completion (R63 to R66), and the application of AUTO and CUT
(R59 to R62). -/

namespace Sys2Proof.Machine

/-! The acts of a completion. -/

section

variable (b : Bank)

theorem Bank.completeNotLive_backgrounds :
    b.completeNotLive.a = (if b.nextSet.bkgd then b.b else b.a) ∧ b.completeNotLive.b = (if b.nextSet.bkgd then b.a else b.b) :=
  ⟨rfl, rfl⟩

/-- A keyer in the set is toggled (R65, 2). -/
theorem Bank.completeNotLive_onAir (k : Keyer) :
    b.completeNotLive.onAir.get k = if b.nextSet.keys.get k then !b.onAir.get k else b.onAir.get k := by
  have toggled : b.completeNotLive.onAir.get k = (b.onAir.get k ^^ b.nextSet.keys.get k) := PerKeyer.get_ofFn _ k
  rw [toggled]
  cases b.nextSet.keys.get k <;> simp

/-- The flip-flop turns the sense of a wipe and nothing else of the setup (R66). -/
theorem Bank.completeNotLive_setup :
    b.completeNotLive.setup = { b.setup with
      reverse := if b.setup.type = .wipe ∧ b.setup.flipFlop = true then !b.setup.reverse else b.setup.reverse } := by
  have turned : b.completeNotLive.setup =
    if b.setup.type = .wipe ∧ b.setup.flipFlop = true then { b.setup with reverse := !b.setup.reverse } else b.setup := rfl
  rw [turned]
  split <;> rfl

/-- Of a completion by AUTO or CUT the second undoes the first (R64). -/
theorem Bank.completeNotLive_twice :
    b.completeNotLive.completeNotLive =
      { b with state := .idle, position := 0, count := 0, fader := { b.fader with live := false } } := by
  have members : b.completeNotLive.nextSet = b.nextSet := rfl
  have backgrounds : b.completeNotLive.completeNotLive.a = b.a ∧ b.completeNotLive.completeNotLive.b = b.b := by
    simp only [Bank.completeNotLive_backgrounds, members]
    split <;> exact ⟨rfl, rfl⟩
  have onAir : b.completeNotLive.completeNotLive.onAir = b.onAir := PerKeyer.ext_get fun k => by
    simp only [Bank.completeNotLive_onAir, members]
    split <;> simp
  have setup : b.completeNotLive.completeNotLive.setup = b.setup := by
    rw [b.completeNotLive.completeNotLive_setup, b.completeNotLive_setup]
    dsimp only
    split <;> simp
  have rest : b.completeNotLive.completeNotLive = { b with
    a := b.completeNotLive.completeNotLive.a, b := b.completeNotLive.completeNotLive.b
    onAir := b.completeNotLive.completeNotLive.onAir, setup := b.completeNotLive.completeNotLive.setup
    state := .idle, position := 0, count := 0, fader := { b.fader with live := false } } := rfl
  rw [rest, backgrounds.1, backgrounds.2, onAir, setup]

end

/-- Settles O21. -/
theorem completionActs : Obligations.CompletionActs := by
  intro b
  have setup := b.completeNotLive_setup
  refine ⟨?_, fun inSet => ?_, fun outside => ?_, b.completeNotLive_onAir, congrArg TransitionSetup.reverse setup,
    b.completeNotLive_twice⟩
  · rw [← show b.completeNotLive.setup = { b.setup with reverse := b.completeNotLive.setup.reverse } by rw [setup]]
    rfl
  · rw [b.completeNotLive_backgrounds.1, b.completeNotLive_backgrounds.2, inSet]
    exact ⟨rfl, rfl⟩
  · rw [b.completeNotLive_backgrounds.1, b.completeNotLive_backgrounds.2, outside]
    exact ⟨rfl, rfl⟩

/-! The course of an automatic transition. -/

/-- The fader after a step in RUN_AUTO: the filter where F is valid, and previous P_bar (R77). -/
def Fader.follow (f : Fader) : Fader := { f.filter with previous := f.filter.bar }

/-- The bank after `k` steps of an automatic transition that is not over by then (R63). -/
def Bank.autoAfter (b : Bank) (k : Nat) : Bank :=
  { b with
    count := b.count + k
    position := if k = 0 then b.position else (b.count + k) * 1024 / b.setup.rate
    fader := Fader.follow^[k] b.fader }

section

variable {b : Bank}

theorem Bank.faderFollow_eq (b : Bank) : b.faderFollow = { b with fader := b.fader.follow } := rfl

theorem Bank.step_runAuto (auto : b.state = .runAuto) : b.step = b.faderFollow.autoStep := by
  simp only [Bank.step, auto]

theorem Bank.autoStep_amid (h : b.count + 1 < b.setup.rate) :
    b.autoStep = { b with count := b.count + 1, position := (b.count + 1) * 1024 / b.setup.rate } :=
  if_neg (Nat.not_le.2 h)

theorem Bank.autoStep_last (h : b.count + 1 = b.setup.rate) : b.autoStep = b.completeNotLive := if_pos h.ge

theorem Bank.step_iterate_auto (b : Bank) (auto : b.state = .runAuto) (k : Nat) (below : b.count + k < b.setup.rate) :
    Bank.step^[k] b = b.autoAfter k := by
  induction k with
  | zero => rfl
  | succ k ih =>
    rw [Function.iterate_succ_apply', ih (by omega), Bank.step_runAuto (b := b.autoAfter k) auto,
      Bank.autoStep_amid (b := (b.autoAfter k).faderFollow) below]
    simp only [Bank.faderFollow_eq, Bank.autoAfter, Function.iterate_succ_apply', if_neg k.succ_ne_zero]
    rfl

end

/-- Settles O22, by induction on the steps before the last. -/
theorem autoRunsItsCourse : Obligations.AutoRunsItsCourse := by
  intro b k auto below follow
  refine ⟨b.step_iterate_auto auto k, fun ended => ?_⟩
  obtain ⟨j, rfl⟩ := Nat.exists_eq_succ_of_ne_zero (show k ≠ 0 by omega)
  rw [Function.iterate_succ_apply', Function.iterate_succ_apply', b.step_iterate_auto auto j (by omega),
    Bank.step_runAuto (b := b.autoAfter j) auto, Bank.autoStep_last (b := (b.autoAfter j).faderFollow) ended]
  rfl

/-! AUTO and CUT. -/

/-- The take-over count is the one whole number from P × D / 1024 up to but not including one more (R60). -/
theorem takeoverCount_eq {p d n : Nat} (low : p * d ≤ n * 1024) (high : n * 1024 < p * d + 1024) : takeoverCount p d = n := by
  unfold takeoverCount
  omega

/-- Settles O31. -/
theorem autoAndCutApplied : Obligations.AutoAndCutApplied := by
  intro s sig l tag e c started
  have applied : s.applyEntry sig e = s.applyAuto e := rfl
  refine ⟨fun idle => ?_, fun manual n low high => ?_, fun auto => ?_, rfl⟩
  · rw [applied, State.applyAuto, idle]
    rfl
  · rw [applied, State.applyAuto, manual, ← takeoverCount_eq low high]
    rfl
  · rw [applied, State.applyAuto, auto]
    rfl

end Sys2Proof.Machine
end

section
/-! How a report enters a transmit queue (R153), and the reports of a boundary (R100 to R102). -/

namespace Sys2Proof.Machine

/-! The transmit queue. -/

/-- A report whose slot is empty joins the tail. -/
theorem putReport_join {m : Message} {q : List Message} (free : ∀ x ∈ q, x.slot ≠ m.slot) : putReport m q = q ++ [m] := by
  have vacant : ¬ q.any (fun x => x.slot == m.slot) = true := by simpa using free
  exact if_neg vacant

/-- A report takes the place of the one that waits in its slot. -/
theorem putReport_replace {m old : Message} {ahead behind : List Message} (same : old.slot = m.slot)
    (others : ∀ x ∈ ahead ++ behind, x.slot ≠ m.slot) : putReport m (ahead ++ old :: behind) = ahead ++ m :: behind := by
  have waits : (ahead ++ old :: behind).any (fun x => x.slot == m.slot) = true := by simp [same]
  have stay : ∀ part : List Message, (∀ x ∈ part, x ∈ ahead ++ behind) →
      part.map (fun x => if x.slot = m.slot then m else x) = part := fun part inside =>
    (List.map_congr_left fun x hx => if_neg (others x (inside x hx))).trans part.map_id
  rw [putReport, if_pos waits, List.map_append, List.map_cons, if_pos same,
    stay ahead fun x => List.mem_append_left _, stay behind fun x => List.mem_append_right _]

/-! The links at a boundary. -/

section

variable {s : State} (running : s.setup.phase = .running)

include running

/-- While running a report goes to the wanted links that take reports. -/
theorem State.postWhere_links (want : Link → Bool) (m : Message) (l : Link) :
    (s.postWhere want m).links.get l =
      if s.takesReports l = true ∧ want l = true then (s.links.get l).report m else s.links.get l := by
  simp [State.postWhere_eq, running, Phase.isRunning]

/-- Stage 5 at one link: BANK STATE, then TALLY, each where it is due (R100 to R102, log 9). -/
theorem State.reportBank_links (before : Tally) (l : Link) :
    let owed := s.arbiter.refresh.get l = true
    let told := if s.takesReports l = true ∧ (s.bank.contents ≠ s.reported ∨ owed)
      then (s.links.get l).report s.bankMessage else s.links.get l
    (s.reportBank before).links.get l =
      if s.takesReports l = true ∧ (s.tally ≠ before ∨ owed) then told.report s.tallyMessage else told := by
  intro owed told
  have posted : ∀ want m, (s.postWhere want m).setup.phase = .running := fun want m => by
    rw [State.postWhere_eq]; exact running
  have whole : (s.reportBank before).links =
      ((s.postWhere (fun l => decide (s.bank.contents ≠ s.reported) || s.arbiter.refresh.get l) s.bankMessage).postWhere
        (fun l => decide (s.tally ≠ before) || s.arbiter.refresh.get l) s.tallyMessage).links := rfl
  have takes : ∀ want m, (s.postWhere want m).takesReports l = s.takesReports l := fun want m => by
    rw [State.postWhere_eq]; rfl
  rw [whole, State.postWhere_links (posted _ _), State.postWhere_links running, takes]
  simp only [Bool.or_eq_true, decide_eq_true_eq, told, owed]

end

/-- Settles O36. -/
theorem boundaryReports : Obligations.BoundaryReports := by
  refine ⟨fun p m r slot => ⟨fun free => ?_, fun ahead old behind queue same others => ?_⟩, fun s before running => ?_⟩
  · exact congrArg (fun q => { p with transmit := q }) (putReport_join fun x hx => slot ▸ free x hx)
  · rw [LinkPort.report, queue, putReport_replace (same.trans slot.symm) fun x hx => slot ▸ others x hx]
  · refine ⟨s.reportBank_eq before, fun l => ?_⟩
    intro owed bankDue tallyDue bank tally
    have links := State.reportBank_links running before l
    refine ⟨fun silent => ?_, fun noBank noTally => ?_, fun takes due noTally => ?_, fun takes noBank due => ?_,
      fun takes dueBank dueTally => ?_⟩
    · simpa [silent] using links
    · rw [links, if_neg fun h => noTally h.2, if_neg fun h => noBank h.2]
    · rw [links, if_neg fun h => noTally h.2, if_pos ⟨takes, due⟩]; rfl
    · rw [links, if_pos ⟨takes, due⟩, if_neg fun h => noBank h.2]; rfl
    · rw [links, if_pos ⟨takes, dueTally⟩, if_pos ⟨takes, dueBank⟩]; rfl

end Sys2Proof.Machine
end

section
/-! The resets and the status lines (R70, R72, R96, R123, R152, R156, R161 to R164). -/

namespace Sys2Proof.Machine

/-! What a warm reset leaves (R163). -/

/-- F stays valid where TRANS is held STATIC, by whichever link (R72). -/
theorem Fader.warm_eq (f : Fader) (trans : Holding) :
    f.warm trans = { f with
      live := false
      valid := f.valid && decide (trans = .static .L1 ∨ trans = .static .L2 ∨ trans = .static .L3 ∨ trans = .static .L4) } := by
  cases trans with
  | free | acquired l m => simp [Fader.warm, Fader.forget]
  | static l => cases l <;> simp [Fader.warm]

/-- A warm reset, with its effects on the fader and on each holding given. -/
theorem State.warmRestart_eq (s : State) {f : Fader} {freed : Group → Holding}
    (fader : s.bank.fader.warm (s.arbiter.holdings.get .trans) = f)
    (holdings : ∀ g, (s.arbiter.holdings.get g).warm = freed g) :
    s.warmRestart = { s with
      links := .const freshPort, queue := [], bank := { s.bank with fader := f }
      arbiter := { s.arbiter with holdings := .ofFn freed, walk := .const .start }
      memory := { s.memory with walk := .const .start } } := by
  obtain rfl := fader
  obtain rfl : (fun g => (s.arbiter.holdings.get g).warm) = freed := funext holdings
  rfl

/-- A warm reset taken from its line, with the phase it leads to given. -/
theorem State.lineRestart_eq (s : State) {p : Phase} (phase : s.setup.phase.warmAsserted = p) :
    s.lineRestart = { s.warmRestart with setup := { s.setup with
      record := if s.setup.phase.followsCold then s.setup.record else .warmLine, warmLine := true, phase := p } } := by
  obtain rfl := phase
  rfl

/-! Refusals that take a slot of their own, or find none (R152). -/

section

variable {s : State} {l : Link}

theorem State.refuseUnreserved_free (room : (s.links.get l).slotsUsed < 12) (tag kind : Byte) (reason : Reason) (g : Option Group) :
    s.refuseUnreserved l tag kind reason g = s.refused l tag kind reason g := by
  have free : ¬ (s.links.get l).slotsFull = true := fun full => Nat.not_le.2 room (of_decide_eq_true full)
  exact (if_neg free).trans (s.refuse_reserved l tag kind reason g)

theorem State.refuseUnreserved_full (full : 12 ≤ (s.links.get l).slotsUsed) (tag kind : Byte) (reason : Reason) (g : Option Group) :
    s.refuseUnreserved l tag kind reason g = s.modifyLink l LinkPort.lost :=
  if_pos (decide_eq_true full)

/-- A good frame takes no reply slot. -/
theorem State.heard_slotsUsed (s : State) (l : Link) : ((s.heard l).links.get l).slotsUsed = (s.links.get l).slotsUsed := by
  rw [State.heard, PerLink.get_set_self]
  rfl

/-! WARM RESET. -/

theorem exec_warmReset (running : s.setup.phase = .running) (enabled : s.enabled l = true) (tag : Byte) :
    exec (.warmReset l tag []) s = .next ((s.heard l).takeWarmReset l tag []) :=
  congrArg Host.Outcome.next (State.onGoodFrame_running running enabled fun s => s.takeWarmReset l tag [])

/-- Carried out whatever the reply slots, and unanswered (R152, R163). -/
theorem State.takeWarmReset_allowed (may : s.MayUse l .setup) (tag : Byte) :
    s.takeWarmReset l tag [] = s.requestedRestart := by
  simp only [State.takeWarmReset, State.groupRefusal_none may]
  exact if_pos rfl

theorem State.takeWarmReset_refused {reason : Reason} (refusal : s.groupRefusal l .setup = some reason) (tag : Byte) :
    s.takeWarmReset l tag [] = s.refuseUnreserved l tag 0x38 reason (some .setup) := by
  simp only [State.takeWarmReset, refusal]
  exact if_pos rfl

/-- A link that is barred from a group, or finds it held by another, is refused (R88). -/
theorem State.groupRefusal_some {g : Group} (h : s.barredFrom l g = true ∨ ∃ h, s.holder g = some h ∧ h ≠ l) :
    ∃ reason, s.groupRefusal l g = some reason := by
  by_cases barred : s.barredFrom l g = true
  · exact ⟨_, State.groupRefusal_barred barred⟩
  · obtain ⟨h, held, other⟩ := h.resolve_left barred
    exact ⟨_, State.groupRefusal_holder (Bool.eq_false_iff.2 barred) held other⟩

end

/-! The lines. -/

theorem exec_warmResetAsserted (s : State) : exec .warmResetAsserted s =
    .next (if s.setup.coldLine || s.setup.warmLine then { s with setup := { s.setup with warmLine := true } } else s.lineRestart) :=
  rfl

/-- The release of WARM_RESETn, with the phase it leads to given. -/
theorem exec_warmResetReleased (s : State) {p : Phase} (phase : s.setup.phase.warmReleased = p) :
    exec .warmResetReleased s = .next { s with setup := { s.setup with warmLine := false, phase := p } } := by
  obtain rfl := phase
  rfl

theorem exec_coldResetReleased (due : Nat) (s : State) : exec (.coldResetReleased due) s =
    .next (if s.setup.phase.isColdReset then { s with
        setup := { s.setup with coldLine := false, phase := .initialising true }
        reference := { s.reference with lastBoundary := due - s.reference.format.period, nextBoundary := due } }
      else { s with setup := { s.setup with coldLine := false } }) :=
  rfl

/-- Settles O55. -/
theorem resets : Obligations.Resets := by
  intro s warm lost
  have restart : s.warmRestart = warm :=
    s.warmRestart_eq (Fader.warm_eq _ _) fun g => by cases s.arbiter.holdings.get g <;> rfl
  refine ⟨⟨fun held => ?_, fun initialising => ?_, fun running unlocked => ?_, fun running locked => ?_⟩,
    fun l tag running enabled => ⟨fun may => ?_, fun room => ⟨fun barred => ?_, fun free held => ?_⟩, fun full refused => ?_⟩,
    fun coldUp warmUp => ?_, fun asserted => ?_, ?_, rfl, fun due cold => ?_, fun due other => ?_⟩
  · obtain cold | ⟨c, reset⟩ := held
    · simp [State.statusLines, cold]
    · simp [State.statusLines, reset]
  · obtain ⟨c, phase⟩ := initialising
    simp [State.statusLines, phase]
  · simp [State.statusLines, running, unlocked]
  · simp [State.statusLines, running, locked]
  · rw [exec_warmReset running enabled, State.takeWarmReset_allowed (s := s.heard l) may, ← restart]
    rfl
  · have refusal : (s.heard l).groupRefusal l .setup = some .barred := State.groupRefusal_barred barred
    rw [exec_warmReset running enabled, State.takeWarmReset_refused refusal,
      State.refuseUnreserved_free (by rwa [State.heard_slotsUsed])]
  · obtain ⟨h, holder, other⟩ := held
    have refusal : (s.heard l).groupRefusal l .setup = some .notHolder := State.groupRefusal_holder free holder other
    rw [exec_warmReset running enabled, State.takeWarmReset_refused refusal,
      State.refuseUnreserved_free (by rwa [State.heard_slotsUsed])]
  · obtain ⟨reason, refusal⟩ := State.groupRefusal_some (s := s.heard l) refused
    rw [exec_warmReset running enabled, State.takeWarmReset_refused refusal,
      State.refuseUnreserved_full (by rwa [State.heard_slotsUsed])]
    rfl
  · rw [exec_warmResetAsserted, coldUp, warmUp, ← restart]
    exact congrArg Host.Outcome.next (s.lineRestart_eq (by cases s.setup.phase <;> rfl))
  · rw [exec_warmResetAsserted, if_pos (by simpa using asserted)]
  · exact exec_warmResetReleased s (by cases s.setup.phase <;> rfl)
  · rw [exec_coldResetReleased, if_pos ((Phase.isColdReset_iff _).2 cold)]
  · rw [exec_coldResetReleased, if_neg fun h => other ((Phase.isColdReset_iff _).1 h)]

end Sys2Proof.Machine
end

section
/-! The laws of the device after a cold reset (R53, R56, R74, R78, R86, R104, R132, R135, R152, R154, R158, R162). -/

namespace Sys2Proof.Machine

section

variable (setup : SetupUnit) (last next : Nat) (pending : List Instr)

theorem coldState_holder (g : Group) : (coldState setup last next pending).holder g = none :=
  congrArg Holding.holder (PerGroup.get_const Holding.free g)

/-- Nothing waits, nothing is held, and the fader has no reading. -/
theorem coldState_holdingsLaw : (coldState setup last next pending).HoldingsLaw where
  entriesMay _ he := nomatch he
  entriesEnabled _ he := nomatch he
  holdersAllowed g l held := by simp [coldState_holder] at held
  acquiredEnabled g l m held := by simp [coldState, coldArbiter] at held
  readingHeld := nofun
  liveValid := nofun
  rankRange l := by simp [coldState, coldArbiter, coldAttributes]
  periodRange := .inr (by simp [coldState, coldArbiter])
  counterRange := .inl rfl

theorem coldState_links (l : Link) : (coldState setup last next pending).links.get l = freshPort := PerLink.get_const _ l

/-- Every link is at rest. -/
theorem coldState_linksLaw : (coldState setup last next pending).LinksLaw where
  queueRoom := Nat.zero_le _
  reserved l := by rw [coldState_links]; rfl
  slots l := by rw [coldState_links]; exact Nat.zero_le _
  reports l r := by rw [coldState_links]; exact Nat.zero_le _
  receivers l := by rw [coldState_links]; trivial
  counters l := by rw [coldState_links]; simp [freshPort, zeroCounters, Counters.InRange]

end

/-- Eight empty records. -/
theorem emptyLog_lawful : emptyLog.Lawful where
  size := rfl
  distinct i _ a _ first := by
    have filled := List.eq_of_mem_replicate (List.mem_of_getElem? first)
    exact nomatch filled
  repeats a filled := nomatch List.eq_of_mem_replicate filled

theorem coldReference_lawful (last next : Nat) : (coldReference last next).Lawful := ⟨rfl, rfl, rfl⟩

/-- `State.reset` is the part with COLD_RESETn released, after its assertion. -/
theorem State.reset_restartLaw : State.reset.RestartLaw :=
  (coldState_restartLaw false 0 0 []).coldResetReleased (timerDue := 10800000) rfl

/-- Settles O4. -/
theorem lawsAtReset : Obligations.LawsAtReset :=
  ⟨coldState_holdingsLaw _ _ _ _, coldState_bankLaw _ _ _ _, coldState_linksLaw _ _ _ _, emptyLog_lawful, coldReference_lawful _ _,
    State.reset_restartLaw, coldBank_tally⟩

end Sys2Proof.Machine
end

section
/-! The laws that tie the queue and the fader to the holdings table, kept by each update (R74, R86, R104, R117 to R119). -/

namespace Sys2Proof.Machine

/-! Tables that show no holding which another table does not. -/

/-- Holdings may have ended and marks may have changed, but nothing is held in `new` that was not held so in `old`. -/
def NoMore (new old : PerGroup Holding) : Prop := ∀ g x, (new.get g).shown = some x → (old.get g).shown = some x

theorem Holding.holder_eq_shown (h : Holding) : h.holder = h.shown.map Prod.fst := by cases h <;> rfl

theorem Holding.shown_acquired (h : Holding) (l : Link) : h.shown = some (l, .acquired) ↔ ∃ m, h = .acquired l m := by
  cases h <;> simp [Holding.shown]

section

variable {new old : PerGroup Holding}

theorem NoMore.holder (less : NoMore new old) {g : Group} {l : Link} (held : (new.get g).holder = some l) :
    (old.get g).holder = some l := by
  rw [Holding.holder_eq_shown, Option.map_eq_some_iff] at held ⊢
  obtain ⟨x, shown, link⟩ := held
  exact ⟨x, less g x shown, link⟩

theorem NoMore.acquired (less : NoMore new old) {g : Group} {l : Link} {m : Bool} (held : new.get g = .acquired l m) :
    ∃ n, old.get g = .acquired l n :=
  (Holding.shown_acquired _ l).1 (less g _ ((Holding.shown_acquired _ l).2 ⟨m, held⟩))

end

theorem noMore_freed (table : PerGroup Holding) (set : PerGroup Bool) : NoMore (freed table set) table := by
  intro g x shown
  rw [freed, PerGroup.get_ofFn] at shown
  split at shown
  · exact nomatch shown
  · exact shown

theorem noMore_swept (table : PerGroup Holding) : NoMore (table.map Holding.swept) table := by
  intro g x shown
  rw [PerGroup.get_map] at shown
  cases h : table.get g with
  | free => rw [h] at shown; exact nomatch shown
  | static l => rw [h] at shown; exact shown
  | acquired l m =>
    rw [h] at shown
    cases m with
    | false => exact nomatch shown
    | true => exact shown

theorem noMore_warm (table : PerGroup Holding) : NoMore (table.map Holding.warm) table := by
  intro g x shown
  rw [PerGroup.get_map] at shown
  cases h : table.get g with
  | free => rw [h] at shown; exact nomatch shown
  | static l => rw [h] at shown; exact shown
  | acquired l m => rw [h] at shown; exact nomatch shown

/-- A mark changes neither holder nor kind (R105). -/
theorem marked_shown (table : PerGroup Holding) (l : Link) (g j : Group) :
    ((marked table l g).get j).shown = (table.get j).shown := by
  unfold marked
  split
  · next unmarked =>
    rw [PerGroup.get_set]
    split
    · next same =>
      rw [same, unmarked]
      rfl
    · rfl
  · rfl

/-! Withdrawal. -/

/-- An entry that a change of holdings leaves in the queue finds its group free or its own, where it did before (R94). -/
theorem not_displaced {old new : PerGroup Holding} {e : Entry} {g : Group} (stays : displaced old new e = false)
    (group : e.group = some g) (may : (old.get g).holder = none ∨ (old.get g).holder = some e.link) :
    (new.get g).holder = none ∨ (new.get g).holder = some e.link := by
  by_cases same : (old.get g).holder = (new.get g).holder
  · rwa [same] at may
  · simp only [displaced, group, Bool.and_eq_false_iff, Bool.or_eq_false_iff, bne_eq_false_iff_eq, beq_eq_false_iff_ne, same,
      false_or] at stays
    obtain ⟨-, unheld | own⟩ := stays
    · exact .inl unheld
    · exact .inr own

variable {s t : State}

/-! What the checks, a CLAIM and a SET AGING let through. -/

/-- The barred and the holder check pass a link that may use the group, and no other (R88). -/
theorem State.groupRefusal_none_iff (l : Link) (g : Group) : s.groupRefusal l g = none ↔ s.MayUse l g := by
  refine ⟨fun passed => ?_, State.groupRefusal_none⟩
  unfold State.groupRefusal at passed
  split_ifs at passed with barred
  refine ⟨Bool.eq_false_iff.2 barred, ?_⟩
  split at passed
  · next free => exact .inl free
  · next h held =>
    split_ifs at passed with own
    exact .inr (own ▸ held)

/-- What a CLAIM may put in the place of a holding: one of its own, ACQUIRED, or a STATIC one that it found (R107). -/
theorem State.claimed_cases {l : Link} {x y : Holding} {outcome : ClaimOutcome} (claimed : s.claimed l x = some (y, outcome)) :
    y = .acquired l true ∨ (y = x ∧ y = .static l) := by
  unfold State.claimed at claimed
  split at claimed
  · cases claimed; exact .inl rfl
  · split_ifs at claimed <;> cases claimed <;> exact .inl rfl
  · split_ifs at claimed with own
    cases claimed
    exact .inr ⟨rfl, own ▸ rfl⟩

theorem clampSweepPeriod_range (v : Nat) : clampSweepPeriod v = 0 ∨ (25 ≤ clampSweepPeriod v ∧ clampSweepPeriod v ≤ 16383) := by
  unfold clampSweepPeriod
  split
  · exact .inl rfl
  · exact .inr (clampNat_between v (by decide))

theorem readSetAging_range {ps : List Byte} {t : Nat} (h : readSetAging ps = some t) : t = 0 ∨ (25 ≤ t ∧ t ≤ 16383) := by
  unfold readSetAging at h
  split at h
  · exact Option.some.inj h ▸ clampSweepPeriod_range _
  · exact nomatch h

/-- A reading stays valid through a warm reset under a STATIC holder of TRANS, whom the reset leaves it (R72, R123). -/
theorem Fader.warm_valid {f : Fader} {trans : Holding} (valid : (f.warm trans).valid = true) : trans.warm.holder ≠ none := by
  cases trans with
  | static l => nofun
  | free | acquired l m => exact nomatch valid

theorem Fader.warm_live (f : Fader) (trans : Holding) : (f.warm trans).live = false := by cases trans <;> rfl

theorem Holding.acquired_of_holder {h : Holding} {l : Link} (held : h.holder = some l) (other : h ≠ .static l) :
    ∃ m, h = .acquired l m := by
  cases h with
  | free => exact nomatch held
  | static j => exact absurd (congrArg Holding.static (Option.some.inj held)) other
  | acquired j m => exact ⟨m, congrArg (Holding.acquired · m) (Option.some.inj held)⟩

theorem State.barredFrom_setAttributes (l j : Link) (g : Group) {a : LinkAttributes}
    (same : a.barred = (s.arbiter.attributes.get l).barred) : (s.setAttributes l a).barredFrom j g = s.barredFrom j g := by
  simp only [State.barredFrom, State.setAttributes, State.setArbiter_arbiter, PerLink.get_set]
  split
  · next here => rw [here, same]
  · rfl

theorem State.enabled_setAttributes (l j : Link) {a : LinkAttributes} (same : a.enabled = s.enabled l) :
    (s.setAttributes l a).enabled j = s.enabled j := by
  simp only [State.enabled, State.setAttributes, State.setArbiter_arbiter, PerLink.get_set]
  split
  · next here => rw [here, same]; rfl
  · rfl

theorem readSetLink_rank {ps : List Byte} {l : Link} {a : LinkAttributes} (h : readSetLink ps = some (l, a)) : a.rank ≤ 3 := by
  unfold readSetLink at h
  split at h
  · simp only [Option.bind_eq_bind, Option.bind_eq_some_iff] at h
    obtain ⟨_, _, _, _, _, _, _, _, _, _, _, _, _, _, _, _, _, _, _, _, _, _, e⟩ := h
    cases e
    exact (clampNat_between _ (Nat.zero_le 3)).2
  · exact nomatch h

namespace State.HoldingsLaw

/-- The law reads the queue, four blocks of the arbiter, and two flags of the fader. -/
theorem of_blocks (h : s.HoldingsLaw) (queue : ∀ e ∈ t.queue, e ∈ s.queue) (holdings : t.arbiter.holdings = s.arbiter.holdings)
    (attributes : t.arbiter.attributes = s.arbiter.attributes) (period : t.arbiter.sweepPeriod = s.arbiter.sweepPeriod)
    (counter : t.arbiter.sweepCounter = s.arbiter.sweepCounter) (valid : t.bank.fader.valid = true → s.bank.fader.valid = true)
    (live : t.bank.fader.live = true → t.bank.fader.valid = true) : t.HoldingsLaw := by
  have barred (l : Link) (g : Group) : t.barredFrom l g = s.barredFrom l g := by rw [State.barredFrom, attributes]; rfl
  have enabled (l : Link) : t.enabled l = s.enabled l := by rw [State.enabled, attributes]; rfl
  have holder (g : Group) : t.holder g = s.holder g := by rw [State.holder, holdings]; rfl
  exact
    { entriesMay := fun e he g hg => by
        rw [State.MayUse, barred, holder]
        exact h.entriesMay e (queue e he) g hg
      entriesEnabled := fun e he => by rw [enabled]; exact h.entriesEnabled e (queue e he)
      holdersAllowed := fun g l held => by
        rw [holder] at held
        rw [barred]
        exact h.holdersAllowed g l held
      acquiredEnabled := fun g l m held => by
        rw [holdings] at held
        rw [enabled]
        exact h.acquiredEnabled g l m held
      readingHeld := fun v => by rw [holder]; exact h.readingHeld (valid v)
      liveValid := live
      rankRange := by rw [attributes]; exact h.rankRange
      periodRange := by rw [period]; exact h.periodRange
      counterRange := by rw [period, counter]; exact h.counterRange }

/-- What leaves queue, arbiter and fader as they are. -/
theorem of_eq (h : s.HoldingsLaw) (queue : t.queue = s.queue) (arbiter : t.arbiter = s.arbiter)
    (fader : t.bank.fader = s.bank.fader) : t.HoldingsLaw :=
  h.of_blocks (fun _ he => queue ▸ he) (congrArg _ arbiter) (congrArg _ arbiter) (congrArg _ arbiter) (congrArg _ arbiter)
    (fun v => fader ▸ v) (fun on => by rw [fader] at on ⊢; exact h.liveValid on)

/-! Changes of the holdings table. -/

/-- A move of the holdings table, with the attributes already new: what leaves the queue by `also` and what the new table
holds meet the new attributes. -/
theorem moveHoldings_under (h : s.HoldingsLaw) {attributes : PerLink LinkAttributes} {new : PerGroup Holding} {also : Entry → Bool}
    (rank : ∀ l, (attributes.get l).rank ≤ 3)
    (enabled : ∀ e ∈ s.queue, also e = false → (attributes.get e.link).enabled = true)
    (allowed : ∀ e ∈ s.queue, also e = false → ∀ g, e.group = some g → (attributes.get e.link).barred.get g = false)
    (holders : ∀ g l, (new.get g).holder = some l → (attributes.get l).barred.get g = false)
    (acquired : ∀ g l m, new.get g = .acquired l m → (attributes.get l).enabled = true) :
    ((s.setArbiter { s.arbiter with attributes := attributes }).moveHoldings new also).HoldingsLaw := by
  obtain ⟨moved, -⟩ := (s.setArbiter { s.arbiter with attributes := attributes }).moveHoldings_eq new also
  have stays {e : Entry} (he : e ∈ s.queue.filter fun e => !(also e || displaced s.arbiter.holdings new e)) :
      e ∈ s.queue ∧ also e = false ∧ displaced s.arbiter.holdings new e = false := by
    simpa using he
  rw [moved]
  exact
    { entriesMay := fun e he g hg => by
        obtain ⟨waited, kept, placed⟩ := stays he
        exact ⟨allowed e waited kept g hg, not_displaced placed hg (h.entriesMay e waited g hg).2⟩
      entriesEnabled := fun e he => by
        obtain ⟨waited, kept, -⟩ := stays he
        exact enabled e waited kept
      holdersAllowed := holders
      acquiredEnabled := acquired
      readingHeld := fun valid => by
        dsimp only at valid
        split at valid
        · next same => exact fun none => h.readingHeld valid (same.trans none)
        · exact nomatch valid
      liveValid := fun live => by
        dsimp only at live ⊢
        split at live
        · next same => rw [if_pos same]; exact h.liveValid live
        · exact nomatch live
      rankRange := rank
      periodRange := h.periodRange
      counterRange := h.counterRange }

/-- The same under the attributes that stand. -/
theorem moveHoldings (h : s.HoldingsLaw) {new : PerGroup Holding} (also : Entry → Bool)
    (holders : ∀ g l, (new.get g).holder = some l → s.barredFrom l g = false)
    (acquired : ∀ g l m, new.get g = .acquired l m → s.enabled l = true) : (s.moveHoldings new also).HoldingsLaw :=
  h.moveHoldings_under h.rankRange (fun e he _ => h.entriesEnabled e he) (fun e he _ g hg => (h.entriesMay e he g hg).1) holders
    acquired

/-- Holdings end. -/
theorem moveHoldings_less (h : s.HoldingsLaw) {new : PerGroup Holding} (also : Entry → Bool)
    (less : NoMore new s.arbiter.holdings) : (s.moveHoldings new also).HoldingsLaw := by
  refine h.moveHoldings also (fun g l held => h.holdersAllowed g l (less.holder held)) fun g l m held => ?_
  obtain ⟨n, before⟩ := less.acquired held
  exact h.acquiredEnabled g l n before

/-- One group takes another holding. -/
theorem moveHoldings_set (h : s.HoldingsLaw) (g : Group) (x : Holding) (also : Entry → Bool)
    (allowed : ∀ l, x.holder = some l → s.barredFrom l g = false) (acquired : ∀ l m, x = .acquired l m → s.enabled l = true) :
    (s.moveHoldings (s.arbiter.holdings.set g x) also).HoldingsLaw := by
  refine h.moveHoldings also (fun j l held => ?_) fun j l m held => ?_
  · rw [PerGroup.get_set] at held
    split at held
    · next here => exact here ▸ allowed l held
    · exact h.holdersAllowed j l held
  · rw [PerGroup.get_set] at held
    split at held
    · exact acquired l m held
    · exact h.acquiredEnabled j l m held

theorem postWhere (h : s.HoldingsLaw) (want : Link → Bool) (m : Message) : (s.postWhere want m).HoldingsLaw := by
  rw [State.postWhere_eq]
  exact h.of_eq rfl rfl rfl

theorem reportHoldings (h : s.HoldingsLaw) (old : PerGroup Holding) (f : FrameCount) : (s.reportHoldings old f).HoldingsLaw := by
  unfold State.reportHoldings
  split
  · exact h
  · exact h.postWhere _ _

/-- The mark of a group is set. -/
theorem touch (h : s.HoldingsLaw) (l : Link) (g : Group) : (s.touch l g).HoldingsLaw := by
  have holder (j : Group) : (s.worked l g).holder j = s.holder j := marked_holder _ l g j
  have less : NoMore (marked s.arbiter.holdings l g) s.arbiter.holdings := fun j x shown => (marked_shown _ l g j).symm.trans shown
  rw [State.touch_eq]
  exact
    { h with
      entriesMay := fun e he j hj => by
        rw [State.MayUse, holder]
        exact h.entriesMay e he j hj
      holdersAllowed := fun j i held => h.holdersAllowed j i ((holder j).symm.trans held)
      acquiredEnabled := fun j i m held => by
        obtain ⟨n, before⟩ := less.acquired held
        exact h.acquiredEnabled j i n before
      readingHeld := fun valid none => h.readingHeld valid ((holder .trans).symm.trans none) }

/-- An entry that passed its checks joins the queue (R87, R88). -/
theorem enqueue (h : s.HoldingsLaw) {e : Entry} (enabled : s.enabled e.link = true)
    (may : ∀ g, e.group = some g → s.MayUse e.link g) : (s.setQueue (s.queue ++ [e])).HoldingsLaw :=
  { h with
    entriesMay := fun x hx g hg => by
      rcases List.mem_append.1 hx with old | new
      · exact h.entriesMay x old g hg
      · obtain rfl := List.mem_singleton.1 new
        exact may g hg
    entriesEnabled := fun x hx => by
      rcases List.mem_append.1 hx with old | new
      · exact h.entriesEnabled x old
      · obtain rfl := List.mem_singleton.1 new
        exact enabled }

/-! Sweeps (R115, R116). -/

theorem sweepHoldings (h : s.HoldingsLaw) (f : FrameCount) : (s.sweepHoldings f).HoldingsLaw :=
  (h.moveHoldings_less noEntry (noMore_swept _)).reportHoldings _ _

theorem takeOwedSweep (h : s.HoldingsLaw) : s.takeOwedSweep.HoldingsLaw := by
  unfold State.takeOwedSweep
  split
  · exact (h.sweepHoldings _).of_blocks (fun _ he => he) rfl rfl rfl rfl id (h.sweepHoldings _).liveValid
  · exact h

/-- Another sweep period and count, each in range (R115). -/
theorem setSweep (h : s.HoldingsLaw) {period counter : Nat} (mark : SweepMark)
    (periodRange : period = 0 ∨ (25 ≤ period ∧ period ≤ 16383)) (counterRange : counter = 0 ∨ counter < period) :
    (s.setArbiter { s.arbiter with sweepPeriod := period, sweepCounter := counter, sweepMark := mark }).HoldingsLaw :=
  { h with periodRange := periodRange, counterRange := counterRange }

theorem countBoundary (h : s.HoldingsLaw) : (s.setArbiter s.arbiter.countBoundary).HoldingsLaw := by
  unfold Arbiter.countBoundary
  split_ifs with ahead zero full
  · exact h.setSweep _ h.periodRange h.counterRange
  · exact h.setSweep _ h.periodRange (.inl rfl)
  · exact h.setSweep _ h.periodRange (.inl rfl)
  · refine h.setSweep _ h.periodRange (.inr ?_)
    rw [Arbiter.sweepNext_iff, not_and, not_le] at full
    exact full zero

theorem sweep (h : s.HoldingsLaw) (e : exec .sweep s = .next t) : t.HoldingsLaw := by
  obtain rfl := Host.Outcome.next.inj e
  split
  · exact h.takeOwedSweep
  · exact h
  · split
    · exact (h.sweepHoldings _).setSweep _ (h.sweepHoldings _).periodRange (.inl rfl)
    · exact h

/-! Warm resets (R163). -/

/-- The queue is empty, the ACQUIRED holdings have ended, and F is valid under a STATIC holder alone. -/
theorem warmRestart (h : s.HoldingsLaw) : s.warmRestart.HoldingsLaw where
  entriesMay _ he := nomatch he
  entriesEnabled _ he := nomatch he
  holdersAllowed g l held := h.holdersAllowed g l ((noMore_warm _).holder held)
  acquiredEnabled g l m held := by
    obtain ⟨n, before⟩ := (noMore_warm _).acquired held
    exact h.acquiredEnabled g l n before
  readingHeld valid := by
    have kept := Fader.warm_valid (f := s.bank.fader) valid
    rwa [← PerGroup.get_map Holding.warm] at kept
  liveValid live := absurd live (ne_true_of_eq_false (Fader.warm_live _ _))
  rankRange := h.rankRange
  periodRange := h.periodRange
  counterRange := h.counterRange

/-! Answers and checks. -/

theorem modifyLink (h : s.HoldingsLaw) (l : Link) (f : LinkPort → LinkPort) : (s.modifyLink l f).HoldingsLaw := h.of_eq rfl rfl rfl

theorem refuse (h : s.HoldingsLaw) (l : Link) (tag kind : Byte) (reason : Reason) (g : Option Group) :
    (s.refuse l tag kind reason g).HoldingsLaw := h.of_eq rfl rfl rfl

theorem answer (h : s.HoldingsLaw) (l : Link) (tag : Byte) (k : Kind) (data : List Byte) : (s.answer l tag k data).HoldingsLaw :=
  h.of_eq rfl rfl rfl

theorem withReplySlot (h : s.HoldingsLaw) {l : Link} (on : s.enabled l = true) {handle : State → State}
    (taken : ∀ t : State, t.enabled l = true → t.HoldingsLaw → (handle t).HoldingsLaw) : (s.withReplySlot l handle).HoldingsLaw := by
  unfold State.withReplySlot
  split
  · exact h.modifyLink l _
  · exact taken _ on (h.modifyLink l _)

theorem refuseUnreserved (h : s.HoldingsLaw) {l : Link} (on : s.enabled l = true) (tag kind : Byte) (reason : Reason)
    (g : Option Group) : (s.refuseUnreserved l tag kind reason g).HoldingsLaw :=
  h.withReplySlot on fun _ _ ht => ht.refuse _ _ _ _ _

theorem onGoodFrame (h : s.HoldingsLaw) (l : Link) {handle : State → State}
    (taken : ∀ t : State, t.enabled l = true → t.HoldingsLaw → (handle t).HoldingsLaw) : (s.onGoodFrame l handle).HoldingsLaw := by
  unfold State.onGoodFrame
  dsimp only
  split
  · split
    · next on => exact taken _ on (h.modifyLink l _)
    · exact h.modifyLink l _
  · exact h

theorem admission (h : s.HoldingsLaw) {l : Link} (on : s.enabled l = true) (tag : Byte) (a : Action) :
    (s.admission l tag a).HoldingsLaw := by
  unfold State.admission
  split
  · exact h.refuse _ _ _ _ _
  · next passed =>
    split_ifs
    · exact h.refuse _ _ _ _ _
    · exact h.refuse _ _ _ _ _
    · have may (g : Group) (hg : a.group = some g) : s.MayUse l g := by
        rw [hg] at passed
        exact (State.groupRefusal_none_iff l g).1 passed
      have joined := h.enqueue (e := ⟨l, tag, a⟩) on may
      cases a.group with
      | none => exact joined
      | some g => exact joined.touch l g

theorem immediate {α : Type} (h : s.HoldingsLaw) {l : Link} (on : s.enabled l = true) (k : Kind) (tag : Byte) (ps : List Byte)
    (known : Option Group) {read : List Byte → Option α} {valid : α → State → Bool} {run : α → State → State}
    (taken : ∀ a, read ps = some a → ∀ t : State, valid a t = true → t.enabled l = true → t.HoldingsLaw → (run a t).HoldingsLaw) :
    (s.immediate k l tag ps known read valid run).HoldingsLaw := by
  refine h.withReplySlot on fun t on ht => ?_
  unfold State.checked
  split
  · split
    · exact ht.refuse _ _ _ _ _
    · next a ha =>
      split
      · next good => exact taken a ha t good on ht
      · exact ht.refuse _ _ _ _ _
  · exact ht.refuse _ _ _ _ _

theorem queued (h : s.HoldingsLaw) {l : Link} (on : s.enabled l = true) (k : Kind) (tag : Byte) (ps : List Byte)
    (known : Option Group) (read : List Byte → Option Action) : (s.queued k l tag ps known read).HoldingsLaw :=
  h.immediate on k tag ps known fun a _ _ _ on ht => ht.admission on tag a

theorem groupChecked (h : s.HoldingsLaw) (k : Kind) (l : Link) (tag : Byte) (g : Group) (lockable : Bool) {run : State → State}
    (taken : (run s).HoldingsLaw) : (s.groupChecked k l tag g lockable run).HoldingsLaw := by
  unfold State.groupChecked
  split
  · exact h.refuse _ _ _ _ _
  · split
    · exact h.refuse _ _ _ _ _
    · exact taken

theorem immediateGroup {α : Type} (h : s.HoldingsLaw) {l : Link} (on : s.enabled l = true) (k : Kind) (tag : Byte) (ps : List Byte)
    (g : Group) (lockable : Bool) {read : List Byte → Option α} {valid : α → State → Bool} {run : α → State → State}
    (data : α → State → List Byte)
    (taken : ∀ a, read ps = some a → ∀ t : State, valid a t = true → t.HoldingsLaw → (run a t).HoldingsLaw) :
    (s.immediateGroup k l tag ps g lockable read valid run data).HoldingsLaw :=
  h.immediate on k tag ps (some g) fun a ha t good _ ht =>
    ht.groupChecked k l tag g lockable (((taken a ha t good ht).touch l g).answer l tag k _)

/-! FADER, CLAIM, RELEASE and the STATIC holdings. -/

/-- A reading is accepted from the holder of TRANS (R73). -/
theorem acceptReading (h : s.HoldingsLaw) {l : Link} (held : s.holder .trans = some l) (reading : Nat) :
    (s.acceptReading l reading).HoldingsLaw := by
  refine touch (s := s.setFader { s.bank.fader with reading := reading, valid := true }) ?_ l .trans
  exact { h with readingHeld := fun _ none => absurd (none.symm.trans held) nofun, liveValid := fun _ => rfl }

theorem takeFader (h : s.HoldingsLaw) {l : Link} (on : s.enabled l = true) (tag : Byte) (ps : List Byte) :
    (s.takeFader l tag ps).HoldingsLaw := by
  have refused (reason : Reason) (g : Option Group) := h.refuseUnreserved on tag Kind.fader.code reason g
  unfold State.takeFader
  split
  · split
    · exact refused _ _
    · split
      · exact refused _ _
      · split
        · exact refused _ _
        · next i held =>
          split
          · next own => exact h.acceptReading (own ▸ held) _
          · exact refused _ _
  · exact refused _ _

theorem takeClaim (h : s.HoldingsLaw) {l : Link} (on : s.enabled l = true) {change : State → PerGroup Holding → State}
    (changed : ∀ (t : State) new, (t.replaceHoldings new).HoldingsLaw → (change t new).HoldingsLaw) (tag : Byte) (ps : List Byte) :
    (s.takeClaim change l tag ps).HoldingsLaw := by
  refine h.immediate on _ _ _ _ fun g _ t _ on ht => ?_
  unfold State.carryOutClaim
  split
  · exact ht.refuse _ _ _ _ _
  · next allowed =>
    split
    · exact ht.refuse _ _ _ _ _
    · next x outcome claimed =>
      refine (changed t _ (ht.moveHoldings_set g x noEntry (fun i held => ?_) fun i m held => ?_)).answer l tag _ _
      · have own : l = i := by
          rcases State.claimed_cases claimed with new | ⟨-, new⟩ <;> rw [new] at held <;> exact Option.some.inj held
        exact own ▸ Bool.eq_false_iff.2 allowed
      · rcases State.claimed_cases claimed with new | ⟨-, new⟩ <;> rw [new] at held <;> cases held
        exact on

theorem changeHoldings {new : PerGroup Holding} (h : (s.replaceHoldings new).HoldingsLaw) : (s.changeHoldings new).HoldingsLaw :=
  h.reportHoldings _ _

theorem carryOutRelease (h : s.HoldingsLaw) (l : Link) (tag : Byte) (scope : ReleaseScope) :
    (s.carryOutRelease l tag scope).HoldingsLaw := by
  unfold State.carryOutRelease
  dsimp only
  split
  · exact h.refuse _ _ _ _ _
  · exact (changeHoldings (h.moveHoldings_less noEntry (noMore_freed _ _))).answer _ _ _ _

theorem takeRelease (h : s.HoldingsLaw) {l : Link} (on : s.enabled l = true) (tag : Byte) (ps : List Byte) :
    (s.takeRelease l tag ps).HoldingsLaw := by
  refine h.immediate on _ _ _ _ fun (scope, drain) _ t _ on ht => ?_
  dsimp only
  split
  · exact ht.admission on tag _
  · exact ht.carryOutRelease l tag scope

theorem takeAssignStatic (h : s.HoldingsLaw) {l : Link} (on : s.enabled l = true) (tag : Byte) (ps : List Byte) :
    (s.takeAssignStatic l tag ps).HoldingsLaw := by
  refine h.immediateGroup on _ _ _ _ _ _ fun (g, j) _ t assignable ht => ?_
  refine changeHoldings (ht.moveHoldings_set g (.static j) noEntry (fun i held => ?_) nofun)
  obtain rfl := Option.some.inj held
  simpa [Machine.assignable] using assignable

theorem takeUnassignStatic (h : s.HoldingsLaw) {l : Link} (on : s.enabled l = true) (tag : Byte) (ps : List Byte) :
    (s.takeUnassignStatic l tag ps).HoldingsLaw := by
  refine h.immediate on _ _ _ _ fun g _ t _ _ ht => ht.groupChecked _ _ _ _ _ ?_
  unfold State.carryOutUnassign
  split
  · exact ((changeHoldings (ht.moveHoldings_set g .free noEntry nofun nofun)).touch l .setup).answer _ _ _ _
  · exact ht.refuse _ _ _ _ _
  · exact ht.refuse _ _ _ _ _

theorem takeSetAging (h : s.HoldingsLaw) {l : Link} (on : s.enabled l = true) (tag : Byte) (ps : List Byte) :
    (s.takeSetAging l tag ps).HoldingsLaw :=
  h.immediateGroup on _ _ _ _ _ _ fun _ read _ _ ht => ht.setSweep _ (readSetAging_range read) (.inl rfl)

/-! SET LINK (R118, R119). -/

/-- Attributes that bar, disable and rank a link no more than it was. -/
theorem setAttributes (h : s.HoldingsLaw) (l : Link) {a : LinkAttributes} (barred : a.barred = (s.arbiter.attributes.get l).barred)
    (enabled : s.enabled l = true → a.enabled = true) (rank : a.rank ≤ 3) : (s.setAttributes l a).HoldingsLaw := by
  have barredFrom (j : Link) (g : Group) := State.barredFrom_setAttributes (s := s) l j g barred
  have stays (j : Link) (on : s.enabled j = true) : (s.setAttributes l a).enabled j = true := by
    simp only [State.enabled, State.setAttributes, State.setArbiter_arbiter, PerLink.get_set]
    split
    · next here => exact enabled (here ▸ on)
    · exact on
  exact
    { h with
      entriesMay := fun e he g hg => ⟨(barredFrom _ g).trans (h.entriesMay e he g hg).1, (h.entriesMay e he g hg).2⟩
      entriesEnabled := fun e he => stays _ (h.entriesEnabled e he)
      holdersAllowed := fun g j held => (barredFrom j g).trans (h.holdersAllowed g j held)
      acquiredEnabled := fun g j m held => stays j (h.acquiredEnabled g j m held)
      rankRange := fun j => by
        simp only [State.setAttributes, State.setArbiter_arbiter, PerLink.get_set]
        split
        · exact rank
        · exact h.rankRange j }

/-- Step 1: groups are barred to a link that holds none of them as STATIC; those it holds as ACQUIRED it loses, and its entries of
them leave the queue (R119). -/
theorem setBarred (h : s.HoldingsLaw) (l : Link) {new : PerGroup Bool}
    (settable : ∀ g, new.get g = true → s.arbiter.holdings.get g ≠ .static l) : (s.setBarred l new).HoldingsLaw := by
  have enabled (j : Link) : ((s.setAttributes l { s.arbiter.attributes.get l with barred := new }).enabled j) = s.enabled j :=
    State.enabled_setAttributes l j rfl
  refine h.moveHoldings_under (fun j => ?rank) (fun e he _ => ?enabled) (fun e he stays g hg => ?allowed) (fun g j held => ?holders)
    fun g j m held => ?acquired
  case rank =>
    rw [PerLink.get_set]
    split
    · exact h.rankRange l
    · exact h.rankRange j
  case enabled => exact (enabled e.link).trans (h.entriesEnabled e he)
  case acquired =>
    obtain ⟨n, before⟩ := (noMore_freed _ _).acquired held
    exact (enabled j).trans (h.acquiredEnabled g j n before)
  case allowed =>
    have was : s.barredFrom e.link g = false := (h.entriesMay e he g hg).1
    rw [PerLink.get_set]
    split
    · next own =>
      rw [own] at was
      rw [hg, own, beq_self_eq_true, Bool.true_and, Option.any_some, PerGroup.get_ofFn] at stays
      simpa [show (s.arbiter.attributes.get l).barred.get g = false from was] using stays
    · exact was
  case holders =>
    have before := (noMore_freed _ _).holder held
    have was : s.barredFrom j g = false := h.holdersAllowed g j before
    rw [PerLink.get_set]
    split
    · next own =>
      subst own
      refine Bool.eq_false_iff.2 fun barred => ?_
      obtain ⟨n, acquired⟩ := Holding.acquired_of_holder before (settable g barred)
      rw [freed, PerGroup.get_ofFn, PerGroup.get_ofFn, PerGroup.get_ofFn, acquired, barred,
        show (s.arbiter.attributes.get j).barred.get g = false from was] at held
      simp [Holding.acquiredBy, Holding.holder] at held
    · exact was

/-- Step 2, on to off: nothing of the link waits, and nothing is held by it as ACQUIRED (R119). -/
theorem disableLink (h : s.HoldingsLaw) (l : Link) : (s.disableLink l).HoldingsLaw := by
  have barred (j : Link) (g : Group) :
      (s.setAttributes l { s.arbiter.attributes.get l with enabled := false }).barredFrom j g = s.barredFrom j g :=
    State.barredFrom_setAttributes l j g rfl
  refine modifyLink (h.moveHoldings_under (fun j => ?rank) (fun e he stays => ?enabled) (fun e he _ g hg => ?allowed)
    (fun g j held => ?holders) fun g j m held => ?acquired) l _
  case rank =>
    rw [PerLink.get_set]
    split
    · exact h.rankRange l
    · exact h.rankRange j
  case enabled =>
    rw [PerLink.get_set_of_ne _ (by simpa using stays)]
    exact h.entriesEnabled e he
  case allowed => exact (barred _ g).trans (h.entriesMay e he g hg).1
  case holders => exact (barred j g).trans (h.holdersAllowed g j ((noMore_freed _ _).holder held))
  case acquired =>
    obtain ⟨n, before⟩ := (noMore_freed _ _).acquired held
    have other : j ≠ l := by
      rintro rfl
      rw [freed, PerGroup.get_ofFn, PerGroup.get_ofFn, before] at held
      simp [Holding.acquiredBy] at held
    rw [PerLink.get_set_of_ne _ other]
    exact h.acquiredEnabled g j n before

theorem setEnabled (h : s.HoldingsLaw) (l : Link) (on : Bool) : (s.setEnabled l on).HoldingsLaw := by
  unfold State.setEnabled
  dsimp only
  split
  · exact h.disableLink l
  · next stays =>
    have kept (was : (s.arbiter.attributes.get l).enabled = true) : on = true := by simpa [was] using stays
    exact h.setAttributes l rfl kept (h.rankRange l)

theorem setReports (h : s.HoldingsLaw) (l : Link) (on : Bool) : (s.setReports l on).HoldingsLaw := by
  have set : (s.setAttributes l { s.arbiter.attributes.get l with reports := on }).HoldingsLaw :=
    h.setAttributes l rfl id (h.rankRange l)
  unfold State.setReports
  dsimp only
  split
  · exact set.modifyLink l _
  · exact set

/-- A link newly welcome is owed reports; the law reads none of it. -/
theorem welcome (h : s.HoldingsLaw) (l : Link) : (s.welcome l).HoldingsLaw :=
  postWhere (s := s.setArbiter { s.arbiter with refresh := s.arbiter.refresh.set l true }) { h with } _ _

theorem changeLink (h : s.HoldingsLaw) (l : Link) {a : LinkAttributes} (rank : a.rank ≤ 3)
    (settable : ∀ g, a.barred.get g = true → s.arbiter.holdings.get g ≠ .static l) : (s.changeLink l a).HoldingsLaw := by
  have enabled := (h.setBarred l settable).setEnabled l a.enabled
  have ranked : (((s.setBarred l a.barred).setEnabled l a.enabled).setRank l a.rank).HoldingsLaw := enabled.setAttributes l rfl id rank
  have told := (ranked.setReports l a.reports).reportHoldings s.arbiter.holdings s.reference.frameCount
  unfold State.changeLink
  dsimp only
  split
  · exact told.welcome l
  · exact told

theorem takeSetLink (h : s.HoldingsLaw) {l : Link} (on : s.enabled l = true) (tag : Byte) (ps : List Byte) :
    (s.takeSetLink l tag ps).HoldingsLaw := by
  refine h.immediateGroup on _ _ _ _ _ _ fun (j, a) read t settable ht => ht.changeLink j (readSetLink_rank read) fun g barred => ?_
  simp only [linkSettable, Bool.and_eq_true, List.all_eq_true, Bool.not_eq_true', Bool.and_eq_false_iff] at settable
  have free := settable.2 g (Group.mem_all g)
  simpa [barred] using free

end State.HoldingsLaw
end Sys2Proof.Machine
end

section
/-! The flags of the fader through the transition step and through every application but that of a drained RELEASE (R74, R77, R84). -/

namespace Sys2Proof.Machine

/-- F stays as valid as it was, and a fader with no valid reading is not made live. -/
structure Fader.Grounded (f g : Fader) : Prop where
  valid : g.valid = f.valid
  live : (f.live = true → f.valid = true) → g.live = true → g.valid = true

theorem Fader.Grounded.of_eq {f g : Fader} (valid : g.valid = f.valid) (live : g.live = f.live) : f.Grounded g :=
  ⟨valid, fun law on => valid.trans (law (live ▸ on))⟩

theorem Fader.Grounded.off {f g : Fader} (valid : g.valid = f.valid) (live : g.live = false) : f.Grounded g :=
  ⟨valid, fun _ on => absurd on (ne_true_of_eq_false live)⟩

theorem Fader.Grounded.ofValid {f g : Fader} (valid : g.valid = f.valid) (known : f.valid = true) : f.Grounded g :=
  ⟨valid, fun _ _ => valid.trans known⟩

theorem Fader.filter_flags (f : Fader) : f.filter.valid = f.valid ∧ f.filter.live = f.live := by
  unfold Fader.filter
  split <;> exact ⟨rfl, rfl⟩

/-- The drive stage leaves F valid as it is, a completion by the fader included (R81 to R83). -/
theorem Bank.drive_valid (b : Bank) (bar : Nat) : (b.drive bar).fader.valid = b.fader.valid := by
  unfold Bank.drive
  dsimp only
  split
  · split_ifs <;> rfl
  · split_ifs <;> rfl
  · rfl

/-- The fader drives only with a valid reading (R77, R80). -/
theorem Bank.faderStep_grounded (b : Bank) : b.fader.Grounded b.faderStep.fader := by
  obtain ⟨valid, live⟩ := b.fader.filter_flags
  unfold Bank.faderStep
  dsimp only
  split
  · next driven =>
    rw [Bool.and_eq_true] at driven
    exact .ofValid ((Bank.drive_valid _ _).trans valid) (valid ▸ driven.1)
  · exact .of_eq valid live

theorem Bank.autoStep_fader (b : Bank) : b.autoStep.fader = b.fader ∨ b.autoStep.fader = b.fader.notLive := by
  unfold Bank.autoStep
  dsimp only
  split
  · exact .inr rfl
  · exact .inl rfl

theorem Bank.step_grounded (b : Bank) : b.fader.Grounded b.step.fader := by
  obtain ⟨valid, live⟩ := b.fader.filter_flags
  unfold Bank.step
  split
  · rcases b.faderFollow.autoStep_fader with kept | off
    · rw [kept]; exact .of_eq valid live
    · rw [off]; exact .off valid rfl
  · exact b.faderStep_grounded
  · exact b.faderStep_grounded

theorem Bank.recall_fader (b : Bank) (f : Format) (scope : PartSet) (e : Effects) : (b.recall f scope e).fader = b.fader := by
  have key (b : Bank) (k : Keyer) (on : Bool) (p : Option KeyPart) : (b.recallKey f k on p).fader = b.fader := by
    unfold Bank.recallKey
    split
    · rfl
    · split <;> rfl
  have bkgd (b : Bank) (on : Bool) (p : Option BkgdPart) : (b.recallBkgd on p).fader = b.fader := by
    unfold Bank.recallBkgd
    split
    · rfl
    · split <;> rfl
  have trans (b : Bank) (on : Bool) (p : Option TransPart) : (b.recallTrans on p).fader = b.fader := by
    unfold Bank.recallTrans
    split
    · rfl
    · split <;> rfl
  unfold Bank.recall
  exact List.foldlRecOn (motive := fun c : Bank => c.fader = b.fader) Keyer.all _ ((trans _ _ _).trans (bkgd _ _ _))
    fun c hc k _ => (key c k _ _).trans hc

variable {s t : State}

theorem State.applyRecall_arbiter (e : Entry) (r : Register) (requested : PartSet) :
    (s.applyRecall e r requested).arbiter = s.arbiter ∧ (s.applyRecall e r requested).bank.fader = s.bank.fader := by
  unfold State.applyRecall
  dsimp only
  split_ifs
  · exact ⟨rfl, rfl⟩
  · exact ⟨rfl, rfl⟩
  · exact ⟨rfl, rfl⟩
  · exact ⟨rfl, Bank.recall_fader _ _ _ _⟩

theorem State.applySetFormat_arbiter (e : Entry) (f : Format) (signals : PerInput InputSignal) :
    (s.applySetFormat e f signals).arbiter = s.arbiter ∧ (s.applySetFormat e f signals).bank.fader = s.bank.fader := by
  have changed : (s.changeFormat f signals).arbiter = s.arbiter ∧ (s.changeFormat f signals).bank.fader = s.bank.fader := by
    rw [s.changeFormat_eq f signals]
    split
    · exact ⟨rfl, rfl⟩
    · rw [State.postReport, State.postWhere_eq]; exact ⟨rfl, rfl⟩
  unfold State.applySetFormat
  split_ifs
  · exact ⟨rfl, rfl⟩
  · exact ⟨rfl, rfl⟩
  · exact changed

theorem State.applyAuto_grounded (e : Entry) :
    (s.applyAuto e).arbiter = s.arbiter ∧ s.bank.fader.Grounded (s.applyAuto e).bank.fader := by
  unfold State.applyAuto
  split
  · exact ⟨rfl, .off rfl rfl⟩
  · exact ⟨rfl, .off rfl rfl⟩
  · exact ⟨rfl, .of_eq rfl rfl⟩

/-- No application but that of a drained RELEASE touches the arbiter, or grounds the fader less. -/
theorem State.applyEntry_grounded (signals : PerInput InputSignal) (e : Entry) (other : ∀ scope, e.action ≠ .release scope) :
    (s.applyEntry signals e).arbiter = s.arbiter ∧ s.bank.fader.Grounded (s.applyEntry signals e).bank.fader := by
  have same {f : Fader} : f.Grounded f := .of_eq rfl rfl
  rcases e with ⟨l, tag, a⟩
  cases a with
  | release scope => exact absurd rfl (other scope)
  | auto => exact s.applyAuto_grounded _
  | cut => exact ⟨rfl, .off rfl rfl⟩
  | recallEffects r scope =>
    obtain ⟨arbiter, fader⟩ := State.applyRecall_arbiter (s := s) ⟨l, tag, .recallEffects r scope⟩ r scope
    exact ⟨arbiter, .of_eq (congrArg _ fader) (congrArg _ fader)⟩
  | setFormat f =>
    obtain ⟨arbiter, fader⟩ := State.applySetFormat_arbiter (s := s) ⟨l, tag, .setFormat f⟩ f signals
    exact ⟨arbiter, .of_eq (congrArg _ fader) (congrArg _ fader)⟩
  | select bus source =>
    unfold State.applyEntry State.applySelect
    dsimp only
    split
    · exact ⟨rfl, same⟩
    · cases bus <;> exact ⟨rfl, same⟩
  | keySelect k bus source => cases bus <;> exact ⟨rfl, same⟩
  | nextSet => unfold State.applyEntry State.applyNextSet; dsimp only; split <;> exact ⟨rfl, same⟩
  | transitionSetup => unfold State.applyEntry State.applyTransitionSetup; dsimp only; split <;> exact ⟨rfl, same⟩
  | faderSetup => unfold State.applyEntry State.applyFaderSetup; dsimp only; split <;> exact ⟨rfl, .of_eq rfl rfl⟩
  | keyOrder => unfold State.applyEntry State.applyKeyOrder; dsimp only; split <;> exact ⟨rfl, same⟩
  | keyCut => unfold State.applyEntry State.applyKeyCut; dsimp only; split <;> exact ⟨rfl, same⟩
  | matte | keySetup | keyMask | setOutputRange => exact ⟨rfl, same⟩

end Sys2Proof.Machine
end

section
/-! Every step keeps the laws that tie the queue and the fader to the holdings table. -/

namespace Sys2Proof.Machine

variable {s t : State}

namespace State.HoldingsLaw

/-! A boundary. -/

/-- The front entry is taken and applied (R91, R93). -/
theorem applyEntry (h : s.HoldingsLaw) (signals : PerInput InputSignal) (e : Entry) : (s.applyEntry signals e).HoldingsLaw := by
  by_cases release : ∃ scope, e.action = .release scope
  · obtain ⟨scope, action⟩ := release
    have whole : s.applyEntry signals e = s.carryOutRelease e.link e.tag scope := by simp only [State.applyEntry, action]; rfl
    exact whole ▸ h.carryOutRelease _ _ _
  · obtain ⟨arbiter, fader⟩ := State.applyEntry_grounded (s := s) signals e (not_exists.1 release)
    exact h.of_blocks (s.kept_applyEntry signals e).entries (congrArg _ arbiter) (congrArg _ arbiter) (congrArg _ arbiter)
      (congrArg _ arbiter) (fun v => fader.valid ▸ v) (fader.live h.liveValid)

theorem applyQueue (h : s.HoldingsLaw) (signals : PerInput InputSignal) : (s.applyQueue signals).HoldingsLaw := by
  refine State.applyRounds_keeps (P := State.HoldingsLaw) (fun t e rest queue ht => ?_) _ s h
  have taken : (t.setQueue rest).HoldingsLaw :=
    ht.of_blocks (fun _ he => queue ▸ List.mem_cons_of_mem e he) rfl rfl rfl rfl id ht.liveValid
  exact taken.applyEntry signals e

theorem boundary (h : s.HoldingsLaw) (signals : PerInput InputSignal) (instant : Nat) : (s.boundary signals instant).HoldingsLaw := by
  have opened : (s.takeOwedSweep.openBoundary signals instant).HoldingsLaw :=
    h.takeOwedSweep.countBoundary.of_eq rfl rfl rfl
  have applied : (s.applied signals instant).HoldingsLaw := opened.applyQueue signals
  have stepped := (s.applied signals instant).bank.step_grounded
  rw [s.boundary_eq signals instant]
  exact applied.of_blocks (fun _ he => he) rfl rfl rfl rfl (fun v => stepped.valid ▸ v) (stepped.live applied.liveValid)

/-! The reference unit. -/

theorem updateReference (h : s.HoldingsLaw) (u : ReferenceUnit) : (s.updateReference u).HoldingsLaw := by
  have set : (s.setReference u).HoldingsLaw := h.of_eq rfl rfl rfl
  unfold State.updateReference
  dsimp only
  split
  · exact set
  · exact set.postWhere _ _

theorem pulse (h : s.HoldingsLaw) (instant : Nat) (signals : PerInput InputSignal) : (s.pulse instant signals).HoldingsLaw := by
  have set (u : ReferenceUnit) : (s.setReference u).HoldingsLaw := h.of_eq rfl rfl rfl
  have waiting : (s.pulseWaiting instant signals).HoldingsLaw := by
    unfold State.pulseWaiting
    dsimp only
    split_ifs
    · exact h.updateReference _
    · exact (h.updateReference _).boundary signals instant
    · exact set _
  have locked (due : Nat) : (s.pulseLocked due instant signals).HoldingsLaw := by
    unfold State.pulseLocked
    dsimp only
    split_ifs
    · exact (set _).boundary signals instant
    · exact set _
  unfold State.pulse
  dsimp only
  split
  · exact h.updateReference _
  · split
    · split
      · exact h.updateReference _
      · exact h.updateReference _
      · exact waiting
      · exact locked _
    · split
      · exact h.updateReference _
      · exact h.updateReference _
      · exact h.updateReference _
      · exact h

theorem missingPulse (h : s.HoldingsLaw) (e : exec .missingPulse s = .next t) : t.HoldingsLaw := by
  obtain rfl := Host.Outcome.next.inj e
  split
  · exact h
  · split
    · exact h
    · exact h.updateReference _

/-! Good frames. -/

theorem takeWarmReset (h : s.HoldingsLaw) {l : Link} (on : s.enabled l = true) (tag : Byte) (ps : List Byte) :
    (s.takeWarmReset l tag ps).HoldingsLaw := by
  unfold State.takeWarmReset
  split
  · split
    · exact h.refuseUnreserved on _ _ _ _
    · exact h.warmRestart.of_eq rfl rfl rfl
  · exact h.refuseUnreserved on _ _ _ _

theorem setLock (h : s.HoldingsLaw) : s.setLock.HoldingsLaw := by
  unfold State.setLock
  split
  · exact h
  · exact postWhere (s := s.setSetup { s.setup with lock := true }) (h.of_eq rfl rfl rfl) _ _

/-- The request of any kind from an enabled link. -/
theorem takeKind (h : s.HoldingsLaw) {l : Link} (on : s.enabled l = true) (k : Kind) (tag : Byte) (ps : List Byte) :
    (s.takeKind l k tag ps).HoldingsLaw := by
  cases k with
  | fader => exact h.takeFader on tag ps
  | claim => exact h.takeClaim on (fun _ _ => changeHoldings) tag ps
  | release => exact h.takeRelease on tag ps
  | assignStatic => exact h.takeAssignStatic on tag ps
  | unassignStatic => exact h.takeUnassignStatic on tag ps
  | setAging => exact h.takeSetAging on tag ps
  | setLink => exact h.takeSetLink on tag ps
  | warmReset => exact h.takeWarmReset on tag ps
  | lockSetup => exact h.immediateGroup on _ _ _ _ _ _ fun _ _ _ _ ht => ht.setLock
  | clearReferenceFlag => exact h.immediateGroup on _ _ _ _ _ _ fun _ _ _ _ ht => ht.updateReference _
  | store | erase | setRephase | clearLog => exact h.immediateGroup on _ _ _ _ _ _ fun _ _ _ _ ht => ht.of_eq rfl rfl rfl
  | walkHoldings =>
    exact h.immediate on _ _ _ _ fun _ _ _ _ _ ht => ht.of_blocks (fun _ he => he) rfl rfl rfl rfl id ht.liveValid
  | queryBank | queryTally | queryStatus | walkMemory | readCounters | readLog =>
    exact h.immediate on _ _ _ _ fun _ _ _ _ _ ht => ht.of_eq rfl rfl rfl
  | select | matte | nextSet | transitionSetup | faderSetup | auto | cut | keyOrder | keySelect | keySetup | keyMask | keyCut
  | recallEffects | setFormat | setOutputRange => exact h.queued on _ _ _ _ _

theorem hearKind (h : s.HoldingsLaw) (l : Link) (k : Kind) (tag : Byte) (ps : List Byte) :
    (s.onGoodFrame l fun s => s.takeKind l k tag ps).HoldingsLaw :=
  h.onGoodFrame l fun _ on ht => ht.takeKind on k tag ps

theorem hearFrame (h : s.HoldingsLaw) (f : RequestFrame) : (s.hearFrame f).HoldingsLaw := by
  unfold State.hearFrame
  split
  · split
    · exact h.hearKind _ _ _ _
    · exact h
  · exact h

/-- A queued request with those that come together with it. -/
theorem arrive (h : s.HoldingsLaw) (l : Link) (k : Kind) (tag : Byte) (params : Params) :
    (s.arrive l params fun s => s.takeKind l k tag params.bytes).HoldingsLaw := by
  have row (frames : List RequestFrame) {u : State} (hu : u.HoldingsLaw) : (frames.foldl State.hearFrame u).HoldingsLaw :=
    List.foldlRecOn frames _ hu fun _ hv f _ => hv.hearFrame f
  exact row _ ((row _ h).hearKind l k tag params.bytes)

/-- A request of any kind but CLAIM. -/
theorem request (h : s.HoldingsLaw) {c : Instr} {r : Kind × Link × Byte × Params} (asked : requestOf c = some r)
    (e : exec c s = .next t) : t.HoldingsLaw := by
  obtain ⟨k, l, tag, params⟩ := r
  rw [exec_requestOf s asked] at e
  exact Host.Outcome.next.inj e ▸ h.arrive l k tag params

theorem claim (h : s.HoldingsLaw) {l : Link} {tag : Byte} {params : ClaimParams} (e : exec (.claim l tag params) s = .next t) :
    t.HoldingsLaw := by
  obtain rfl := Host.Outcome.next.inj e
  split
  · exact h.onGoodFrame _ fun _ on ht => ht.takeClaim on (fun _ _ => changeHoldings) _ _
  · refine reportHoldings ?_ _ _
    exact List.foldlRecOn _ _ h fun _ hu f _ => hu.onGoodFrame f.link fun _ on ht => ht.takeClaim on (fun _ _ => id) _ _

theorem takeBody (h : s.HoldingsLaw) (l : Link) (body : List Byte) : (s.takeBody l body).HoldingsLaw := by
  refine h.onGoodFrame l fun t on ht => ?_
  split
  · unfold State.takeRequest
    split
    · exact ht.withReplySlot on fun _ _ hu => hu.refuse _ _ _ _ _
    · exact ht.takeKind on _ _ _
  · exact ht
  · exact ht

/-! The receiver. -/

theorem discardFrame (h : s.HoldingsLaw) (l : Link) : (s.discardFrame l).HoldingsLaw := by
  unfold State.discardFrame
  split
  · exact h.modifyLink l _
  · exact h

theorem receiveByte (h : s.HoldingsLaw) (l : Link) (b : Byte) : (s.receiveByte l b).HoldingsLaw := by
  have moved (r : Receiver) : (s.setReceiver l r).HoldingsLaw := h.modifyLink l _
  unfold State.receiveByte
  split
  · split
    · exact moved _
    · exact h
  · split
    · exact moved _
    · exact h.discardFrame l
  · exact moved _
  · split
    · exact h.takeBody l _
    · exact h.discardFrame l

theorem byteReceived (h : s.HoldingsLaw) {l : Link} {b : Byte} {stopValid : Bool}
    (e : exec (.byteReceived l b stopValid) s = .next t) : t.HoldingsLaw := by
  obtain rfl := Host.Outcome.next.inj e
  split
  · split
    · exact h.receiveByte l b
    · unfold State.receiveError
      split
      · exact h
      · exact h.discardFrame l
  · exact h

end State.HoldingsLaw

/-- Every command keeps the law. -/
theorem exec_holdingsLaw (c : Instr) (h : s.HoldingsLaw) (e : exec c s = .next t) : t.HoldingsLaw := by
  cases c with
  | frameBoundary signals =>
    obtain rfl := Host.Outcome.next.inj e
    split
    · exact h
    · exact h.boundary _ _
  | referencePulse instant signals =>
    obtain rfl := Host.Outcome.next.inj e
    split
    · exact h
    · exact h.pulse _ _
  | sweep => exact h.sweep e
  | missingPulse => exact h.missingPulse e
  | signalLoss i first last =>
    obtain rfl := Host.Outcome.next.inj e
    split
    · exact h.of_eq rfl rfl rfl
    · exact h
  | claim l tag params => exact h.claim e
  | undefinedKind l kind tag ps => exact Host.Outcome.next.inj e ▸ h.takeBody l _
  | disabledLinkFrame l kind tag ps => exact Host.Outcome.next.inj e ▸ h.takeBody l _
  | frameDiscarded l cause => exact Host.Outcome.next.inj e ▸ h.discardFrame l
  | byteGapExpiry l =>
    obtain rfl := Host.Outcome.next.inj e
    split
    · exact h
    · exact h.discardFrame l
  | transmissionBegins l => exact Host.Outcome.next.inj e ▸ h.modifyLink l _
  | transmissionEnds l => exact Host.Outcome.next.inj e ▸ h.modifyLink l _
  | byteReceived l b stopValid => exact h.byteReceived e
  | coldResetAsserted => exact Host.Outcome.next.inj e ▸ coldState_holdingsLaw _ _ _ _
  | coldResetReleased timerDue =>
    obtain rfl := Host.Outcome.next.inj e
    split <;> exact h.of_eq rfl rfl rfl
  | warmResetAsserted =>
    obtain rfl := Host.Outcome.next.inj e
    split
    · exact h.of_eq rfl rfl rfl
    · exact h.warmRestart.of_eq rfl rfl rfl
  | warmResetReleased => exact Host.Outcome.next.inj e ▸ h.of_eq rfl rfl rfl
  | _ => exact h.request rfl e

/-- Settles O5. Three things change the holdings table or what it is read with: a move of the table, which withdraws the entries it
displaces and forgets the fader where TRANS changes hands; a mark; and the steps of SET LINK. An entry joins the queue past its
checks alone, and the fader drives with a valid reading alone. -/
theorem holdingsLawKept : Obligations.HoldingsLawKept := by
  intro s t h e
  unfold step at e
  split at e
  · exact Host.Outcome.next.inj e ▸ h
  · next c rest _ => exact exec_holdingsLaw c (h.of_eq (t := { s with pending := rest }) rfl rfl rfl) e

end Sys2Proof.Machine
end

section
/-! The fader bar: the filter, the bar position, and the fader step outside RUN_AUTO (R77 to R83). -/

namespace Sys2Proof.Machine

/-! The filter (R78). -/

/-- The units by which the filter moves S toward F at a distance `d` (R78). -/
def filterMove (d w : Nat) : Nat := if d * w / 16 = 0 ∧ 0 < d then 1 else d * w / 16

/-- At least one unit, never past F, and with W 16 the whole way. -/
theorem filterMove_bounds (d : Nat) {w : Nat} (weight : w ≤ 16) :
    filterMove d w ≤ d ∧ (0 < d → 0 < filterMove d w) ∧ (w = 16 → filterMove d w = d) := by
  have part : d * w / 16 ≤ d := Nat.div_le_of_le_mul (by rw [Nat.mul_comm]; exact Nat.mul_le_mul_right d weight)
  unfold filterMove
  refine ⟨?_, fun apart => ?_, ?_⟩
  · split <;> omega
  · split <;> omega
  · rintro rfl
    split <;> omega

/-- The truncated quotient of the distance either way. -/
theorem tdiv_distance (d w : Nat) :
    ((d : Int) * w).tdiv 16 = (d * w / 16 : Nat) ∧ (-(d : Int) * w).tdiv 16 = -(d * w / 16 : Nat) := by
  have up : ((d : Int) * w).tdiv 16 = (d * w / 16 : Nat) := by
    rw [Int.ofNat_tdiv]
    push_cast
    rfl
  exact ⟨up, by rw [Int.neg_mul, Int.neg_tdiv, up]⟩

theorem filterNext_up (s d w : Nat) : filterNext (s + d) s w = s + filterMove d w := by
  have distance : ((s + d : Nat) : Int) - s = d := by omega
  unfold filterNext filterStep filterMove
  rw [distance, (tdiv_distance d w).1]
  dsimp only
  split_ifs <;> omega

theorem filterNext_down (f d w : Nat) : filterNext f (f + d) w = f + d - filterMove d w := by
  have distance : (f : Int) - (f + d : Nat) = -(d : Int) := by omega
  unfold filterNext filterStep filterMove
  rw [distance, (tdiv_distance d w).2]
  dsimp only
  split_ifs <;> omega

/-- Settles O23, by the distance of S below F or above it. -/
theorem filterLaw : Obligations.FilterLaw := by
  intro f s w hf hs low high
  rcases le_total s f with up | down
  · obtain ⟨d, rfl⟩ := Nat.exists_eq_add_of_le up
    have bounds := filterMove_bounds d high
    rw [filterNext_up]
    refine ⟨fun _ => by simp [filterMove], fun level => ?_, by omega⟩
    obtain rfl : d = 0 := by omega
    simp [filterMove]
  · obtain ⟨d, rfl⟩ := Nat.exists_eq_add_of_le down
    have bounds := filterMove_bounds d high
    rw [filterNext_down]
    refine ⟨fun level => ?_, fun _ => by simp [filterMove], by omega⟩
    obtain rfl : d = 0 := by omega
    simp [filterMove]

/-! The bar position (R79). -/

section

variable {s l u : Nat}

theorem barOf_low (h : s ≤ l) : barOf s l u = 0 := if_pos h

theorem barOf_high (h : l < s) (h' : u ≤ s) : barOf s l u = 1024 := (if_neg (Nat.not_le.2 h)).trans (if_pos h')

theorem barOf_band (h : l < s) (h' : s < u) : barOf s l u = (s - l) * 1024 / (u - l) :=
  (if_neg (Nat.not_le.2 h)).trans (if_neg (Nat.not_le.2 h'))

/-- The formula of the band also gives the positions at L and at U. -/
theorem barOf_closed (band : l < u) (h : l ≤ s) (h' : s ≤ u) : barOf s l u = (s - l) * 1024 / (u - l) := by
  rcases h.eq_or_lt with rfl | above
  · rw [barOf_low le_rfl, Nat.sub_self, Nat.zero_mul, Nat.zero_div]
  · rcases h'.eq_or_lt with rfl | below
    · rw [barOf_high above le_rfl, Nat.mul_div_cancel_left _ (Nat.sub_pos_of_lt above)]
    · exact barOf_band above below

/-- One unit of S' is at most one unit of P_bar where U − L is no less than 1024. -/
theorem barOf_rises (v : Nat) (band : l + 1024 ≤ u) :
    barOf v l u ≤ barOf (v + 1) l u ∧ barOf (v + 1) l u ≤ barOf v l u + 1 := by
  by_cases below : v < l
  · rw [barOf_low below.le, barOf_low below]
    exact ⟨le_rfl, Nat.zero_le _⟩
  · by_cases above : u ≤ v
    · rw [barOf_high (by omega) above, barOf_high (by omega) (by omega)]
      exact ⟨le_rfl, Nat.le_succ _⟩
    · rw [barOf_closed (by omega) (by omega) (by omega), barOf_closed (by omega) (by omega) (by omega),
        Nat.succ_sub (Nat.not_lt.1 below), Nat.succ_mul]
      have room : 1024 ≤ u - l := by omega
      refine ⟨Nat.div_le_div_right (Nat.le_add_right _ _), ?_⟩
      calc ((v - l) * 1024 + 1024) / (u - l) ≤ ((v - l) * 1024 + (u - l)) / (u - l) :=
            Nat.div_le_div_right (Nat.add_le_add_left room _)
        _ = (v - l) * 1024 / (u - l) + 1 := Nat.add_div_right _ (by omega)

end

/-- Settles O24. -/
theorem barPositions : Obligations.BarPositions := by
  intro f range s hs
  obtain ⟨-, -, -, lower, upper, -⟩ := range
  have bar : f.bar = barOf s f.lower f.upper := by
    rw [hs, Fader.bar]
    cases f.direction <;> rfl
  rw [bar]
  refine ⟨barOf_low, fun high => barOf_high (by omega) high, fun above below => ⟨barOf_band above below, ?_⟩, barOf_le _ _ _,
    fun v => barOf_rises v (by omega)⟩
  rw [barOf_band above below]
  exact Nat.le_of_lt_succ (Nat.div_lt_of_lt_mul (Nat.mul_lt_mul_of_pos_right (by omega) (by decide)))

/-! The fader step (R77, R80 to R83). -/

section

variable (b : Bank)

/-- The fader once the filter has run on a valid reading (R77, stage 1). -/
def Fader.moved (f : Fader) : Fader := { f with filtered := filterNext f.reading f.filtered f.weight }

theorem Fader.filter_valid {f : Fader} (valid : f.valid = true) : f.filter = f.moved := if_pos valid

theorem Fader.filter_invalid {f : Fader} (invalid : f.valid = false) : f.filter = f := if_neg (ne_true_of_eq_false invalid)

/-- P_bar has met P, or crossed it (R80). -/
theorem pickedUp_iff (p previous bar : Nat) :
    pickedUp p previous bar = true ↔ bar = p ∨ (previous < p ∧ p < bar) ∨ (bar < p ∧ p < previous) := by
  simp [pickedUp, or_assoc]

variable {b}

theorem Bank.step_manual (manual : b.state ≠ .runAuto) : b.step = b.faderStep := by
  unfold Bank.step
  split
  · next auto => exact absurd auto manual
  · rfl
  · rfl

/-- With no valid reading, or with a fader neither live nor picked up, the drive stage is passed over (R77, R80). -/
theorem Bank.faderStep_passed (h : b.fader.filter.valid = false ∨
      (b.fader.filter.live = false ∧ pickedUp b.position b.fader.filter.previous b.fader.filter.bar = false)) :
    b.faderStep = { b with fader := { b.fader.filter with previous := b.fader.filter.bar } } := by
  refine if_neg (Bool.eq_false_iff.1 ?_)
  rcases h with invalid | ⟨off, apart⟩
  · rw [invalid, Bool.false_and]
  · rw [off, apart, Bool.or_false, Bool.and_false]

theorem Bank.faderStep_drives (valid : b.fader.filter.valid = true)
    (h : b.fader.filter.live = true ∨ pickedUp b.position b.fader.filter.previous b.fader.filter.bar = true) :
    b.faderStep = { b with fader := b.fader.filter }.drive b.fader.filter.bar := by
  refine if_pos ?_
  rw [valid, Bool.true_and, Bool.or_eq_true]
  exact h

/-! The drive stage by the bar position (R81 to R83). -/

/-- At 0 in IDLE nothing starts. -/
theorem Bank.drive_idle (idle : b.state = .idle) :
    b.drive 0 = { b with fader := { b.fader with live := true, previous := 0 } } := by
  simp only [Bank.drive, idle]
  rfl

/-- Back at 0 in RUN_MANUAL the transition is abandoned. -/
theorem Bank.drive_abandon (manual : b.state = .runManual) :
    b.drive 0 = { b with state := .idle, position := 0, count := 0, fader := { b.fader with live := true, previous := 0 } } := by
  simp only [Bank.drive, manual]
  rfl

/-- Between the ends the transition starts, or follows. -/
theorem Bank.drive_follow (manual : b.state ≠ .runAuto) {bar : Nat} (low : bar ≠ 0) (high : bar ≠ 1024) :
    b.drive bar = { b with state := .runManual, position := bar, fader := { b.fader with live := true, previous := bar } } := by
  cases state : b.state with
  | idle => simp only [Bank.drive, state, low, high, if_false]
  | runManual => simp only [Bank.drive, state, low, high, if_false]
  | runAuto => exact absurd state manual

/-- At 1024 the transition is complete, from IDLE at once, and the direction turns (R82). -/
theorem Bank.drive_complete (manual : b.state ≠ .runAuto) : b.drive 1024 = b.completeByFader := by
  cases state : b.state with
  | idle => simp only [Bank.drive, state]; rfl
  | runManual => simp only [Bank.drive, state]; rfl
  | runAuto => exact absurd state manual

theorem Direction.reversed_eq (d : Direction) : d.reversed = if d = .up then .down else .up := by cases d <;> rfl

end

/-- Settles O25: the filter and the pickup decide whether the drive stage is reached, and there the bar position decides. -/
theorem faderDrives : Obligations.FaderDrives := by
  intro b manual _ f crossing
  refine ⟨fun invalid => ?_, fun valid off apart uncrossed => ?_, fun valid driven => ?_⟩
  · rw [Bank.step_manual manual, Bank.faderStep_passed, Fader.filter_invalid invalid]
    exact .inl (by rw [Fader.filter_invalid invalid]; exact invalid)
  · have filter : b.fader.filter = f := Fader.filter_valid valid
    have missed : ¬ pickedUp b.position f.previous f.bar = true := fun met =>
      ((pickedUp_iff _ _ _).1 met).elim apart uncrossed
    rw [Bank.step_manual manual, Bank.faderStep_passed, filter]
    exact .inr (filter ▸ ⟨off, Bool.eq_false_iff.2 missed⟩)
  · have filter : b.fader.filter = f := Fader.filter_valid valid
    have drives : b.step = { b with fader := f }.drive f.bar := by
      rw [Bank.step_manual manual, Bank.faderStep_drives, filter]
      · rw [filter]; exact valid
      · rw [filter, pickedUp_iff]; exact driven
    rw [drives]
    refine ⟨fun zero idle => ?_, fun zero running => ?_, fun low high => ?_, fun full => ?_⟩
    · rw [zero, Bank.drive_idle (b := { b with fader := f }) idle]
    · rw [zero, Bank.drive_abandon (b := { b with fader := f }) running]
    · rw [Bank.drive_follow (b := { b with fader := f }) manual low high]
    · rw [full, Bank.drive_complete (b := { b with fader := f }) manual, ← Direction.reversed_eq]
      rfl

end Sys2Proof.Machine
end

section
/-! Changes of the holdings table: what each does to the queue, the fader, the links and the log (R94, R106, R116, R121). -/

namespace Sys2Proof.Machine

variable (s : State)

/-! A change and its report. -/

/-- Two tables show the same where every group does. -/
theorem shown_eq_iff (a b : PerGroup Holding) :
    a.map Holding.shown = b.map Holding.shown ↔ ∀ g, (a.get g).shown = (b.get g).shown := by
  refine ⟨fun same g => ?_, fun same => PerGroup.ext_get fun g => ?_⟩
  · rw [← PerGroup.get_map Holding.shown, same, PerGroup.get_map]
  · rw [PerGroup.get_map, PerGroup.get_map, same g]

/-- A HOLDINGS report goes where it is due, into the transmit queues alone (R121, R153). -/
theorem State.reportHoldings_eq (old : PerGroup Holding) (f : FrameCount) :
    let t := s.reportHoldings old f
    t = { s with links := t.links } ∧
    ∀ l, t.links.get l =
      if old.map Holding.shown ≠ s.arbiter.holdings.map Holding.shown ∧ s.setup.phase = .running ∧ s.takesReports l = true
      then (s.links.get l).report (.holdings f (s.arbiter.holdings.map Holding.shown)) else s.links.get l := by
  unfold State.reportHoldings
  split
  · next same => exact ⟨rfl, fun l => by rw [if_neg fun due => due.1 same]⟩
  · next changed =>
    rw [State.postReport, State.postWhere_eq]
    refine ⟨rfl, fun l => ?_⟩
    simp only [State.setLinks_links, PerLink.get_ofFn, Bool.and_true, Bool.and_eq_true, Phase.isRunning_iff, ne_eq, changed,
      not_false_eq_true, true_and]
    rfl

/-- One change of the holdings table, with a report at a frame count. -/
theorem State.moveHoldings_reported (new : PerGroup Holding) (f : FrameCount) :
    let t := (s.moveHoldings new noEntry).reportHoldings s.arbiter.holdings f
    let gone := s.queue.filter (displaced s.arbiter.holdings new)
    t = { s with
      bank := if s.holder .trans = (new.get .trans).holder then s.bank else { s.bank with fader := s.bank.fader.forget }
      arbiter := { s.arbiter with holdings := new }
      queue := s.queue.filter fun e => !displaced s.arbiter.holdings new e
      links := t.links
      log := withdrawnLog s.log s.reference.frameCount gone } ∧
    ∀ l, t.links.get l =
      if s.arbiter.holdings.map Holding.shown ≠ new.map Holding.shown ∧ s.setup.phase = .running ∧ s.takesReports l = true
      then ((s.links.get l).withdrawn l gone).report (.holdings f (new.map Holding.shown))
      else (s.links.get l).withdrawn l gone := by
  intro t gone
  obtain ⟨moved, ports⟩ := s.moveHoldings_eq new noEntry
  obtain ⟨told, reports⟩ := (s.moveHoldings new noEntry).reportHoldings_eq s.arbiter.holdings f
  refine ⟨?_, fun l => ?_⟩
  · rw [show t = _ from told, moved]
    rfl
  · rw [show t.links.get l = _ from reports l, ports l, moved]
    rfl

/-- The entries that a change of holder withdraws (R94). -/
theorem displaced_iff (old new : PerGroup Holding) (e : Entry) :
    displaced old new e = true ↔ ∃ g, e.group = some g ∧ (old.get g).holder ≠ (new.get g).holder ∧
      ((old.get g).holder = some e.link ∨ ((new.get g).holder ≠ none ∧ (new.get g).holder ≠ some e.link)) := by
  unfold displaced
  cases e.group with
  | none => simp
  | some g => simp [bne_iff_ne]

/-- Settles O46. -/
theorem holdingChanges : Obligations.HoldingChanges := by
  intro s table t u old new goes report left shown
  have goes_eq : displaced s.arbiter.holdings table = goes :=
    funext fun e => Bool.eq_iff_iff.2 ((displaced_iff _ _ e).trans decide_eq_true_iff.symm)
  have shown_eq : s.arbiter.holdings.map Holding.shown = table.map Holding.shown ↔ shown s.arbiter.holdings = shown table := by
    simp only [shown, shown_eq_iff, List.map_inj_left, Group.mem_all, true_implies]
  obtain ⟨moved, ports⟩ := s.moveHoldings_eq table noEntry
  obtain ⟨told, reports⟩ := s.moveHoldings_reported table s.reference.frameCount
  simp only [goes_eq, ne_eq, shown_eq] at moved ports told reports
  refine ⟨told, reports, ?_, ports⟩
  rw [show t = _ from told]
  exact moved

/-! Sweeps (R116). -/

/-- A sweep changes what a holding shows where it is ACQUIRED with its mark clear, and there alone. -/
theorem Holding.shown_swept (h : Holding) : h.swept.shown = h.shown ↔ ∀ l, h ≠ .acquired l false := by
  rcases h with _ | ⟨l, _ | _⟩ | l <;> simp [Holding.swept, Holding.shown]

/-- Such a holding loses its holder to no other link. -/
theorem Holding.holder_swept (h : Holding) (l : Link) :
    h.holder ≠ h.swept.holder ∧ (h.holder = some l ∨ (h.swept.holder ≠ none ∧ h.swept.holder ≠ some l)) ↔ h = .acquired l false := by
  rcases h with _ | ⟨j, _ | _⟩ | j <;> simp [Holding.swept, Holding.holder]

/-- A group passes to nobody by a sweep: its holder stays or it is freed. -/
theorem Holding.freed_swept (h : Holding) : h.holder = h.swept.holder ↔ ¬ (h ≠ .free ∧ h.swept = .free) := by
  rcases h with _ | ⟨l, _ | _⟩ | l <;> simp [Holding.swept, Holding.holder]

/-- The entries that a sweep withdraws: those whose link held their group with its mark clear (R94, R116). -/
theorem displaced_swept (table : PerGroup Holding) (e : Entry) :
    displaced table (table.map Holding.swept) e = true ↔ ∃ g, e.group = some g ∧ table.get g = .acquired e.link false := by
  simp only [displaced_iff, PerGroup.get_map, Holding.holder_swept]

/-- SWEEP takes a sweep that a boundary owes, or that of the coming boundary; a cold reset has none (R115, R116, logs 8 and 25). -/
def State.SweepDue : Prop :=
  s.arbiter.sweepMark = .owed ∨
    (s.arbiter.sweepMark = .none ∧ 0 < s.arbiter.sweepPeriod ∧ s.arbiter.sweepPeriod ≤ s.arbiter.sweepCounter + 1 ∧
      s.setup.phase ≠ .coldReset)

/-- The frame count of the boundary at which that sweep falls (R121). -/
def State.sweepCount : FrameCount :=
  if s.arbiter.sweepMark = .owed then s.reference.frameCount else s.reference.frameCount + 1

theorem State.sweepAhead_iff : (s.arbiter.sweepNext && !s.setup.phase.isColdReset) = true ↔
    0 < s.arbiter.sweepPeriod ∧ s.arbiter.sweepPeriod ≤ s.arbiter.sweepCounter + 1 ∧ s.setup.phase ≠ .coldReset := by
  rw [Bool.and_eq_true, Arbiter.sweepNext_iff, Bool.not_eq_true', ← Bool.not_eq_true, Phase.isColdReset_iff,
    Nat.pos_iff_ne_zero, and_assoc]

theorem exec_sweep_idle (idle : ¬ s.SweepDue) : exec .sweep s = .next s := by
  have whole : exec .sweep s = execSweep s := rfl
  rw [State.SweepDue, ← State.sweepAhead_iff, not_or] at idle
  obtain ⟨notOwed, notAhead⟩ := idle
  rw [whole, execSweep]
  cases mark : s.arbiter.sweepMark with
  | owed => exact absurd mark notOwed
  | ahead => rfl
  | none => exact congrArg Host.Outcome.next (if_neg fun next => notAhead ⟨mark, next⟩)

theorem State.sweepHoldings_arbiter (f : FrameCount) :
    (s.sweepHoldings f).arbiter = { s.arbiter with holdings := s.arbiter.holdings.map Holding.swept } :=
  congrArg State.arbiter (s.moveHoldings_reported (s.arbiter.holdings.map Holding.swept) f).1

/-- A sweep taken ahead of its boundary takes the count of it too (log 8). -/
theorem exec_sweep_due (h : s.SweepDue) : exec .sweep s = .next { s.sweepHoldings s.sweepCount with
    arbiter := { s.arbiter with
      holdings := s.arbiter.holdings.map Holding.swept
      sweepCounter := if s.arbiter.sweepMark = .owed then s.arbiter.sweepCounter else 0
      sweepMark := if s.arbiter.sweepMark = .owed then .none else .ahead } } := by
  have whole : exec .sweep s = execSweep s := rfl
  rw [whole, execSweep]
  rcases h with owed | ⟨mark, next⟩
  · simp only [owed, State.takeOwedSweep, State.sweepCount, State.setSweepMark, State.sweepHoldings_arbiter, if_true]
    rfl
  · have notOwed : ¬ (SweepMark.none = SweepMark.owed) := nofun
    simp only [mark, State.sweepCount, Arbiter.countAhead, State.sweepHoldings_arbiter, if_pos (s.sweepAhead_iff.2 next), notOwed,
      if_false]
    rfl

/-- Settles O50: a sweep is one change of the holdings table; which boundary's count it carries, and what becomes of the counter, the
mark decides. -/
theorem sweeps : Obligations.Sweeps := by
  intro s table due goes expires count report
  have swept : s.arbiter.holdings.map Holding.swept = table := PerGroup.ext_get fun g => by
    rw [PerGroup.get_map, PerGroup.get_ofFn]
    rcases s.arbiter.holdings.get g with _ | ⟨l, _ | _⟩ | l <;> rfl
  have goes_eq : displaced s.arbiter.holdings table = goes := funext fun e =>
    Bool.eq_iff_iff.2 ((swept ▸ displaced_swept s.arbiter.holdings e).trans decide_eq_true_iff.symm)
  have changes : s.arbiter.holdings.map Holding.shown ≠ table.map Holding.shown ↔ expires := by
    rw [← swept, ne_eq, shown_eq_iff]
    simp only [PerGroup.get_map, eq_comm (a := (s.arbiter.holdings.get _).shown), Holding.shown_swept, not_forall, not_not, expires]
  have lost : s.holder .trans = (table.get .trans).holder ↔
      ¬ (s.arbiter.holdings.get .trans ≠ .free ∧ table.get .trans = .free) := by
    rw [← swept, PerGroup.get_map]
    exact Holding.freed_swept _
  obtain ⟨told, reports⟩ := s.moveHoldings_reported table s.sweepCount
  rw [show (s.moveHoldings table noEntry).reportHoldings s.arbiter.holdings s.sweepCount = s.sweepHoldings s.sweepCount from
    swept ▸ rfl] at told reports
  simp only [goes_eq, lost, ite_not] at told
  simp only [goes_eq] at reports
  refine ⟨exec_sweep_idle s, fun h => ⟨_, exec_sweep_due s h, ?_, fun l => ⟨fun posted => ?_, fun silent => ?_⟩⟩⟩
  · rw [swept, told]
    rfl
  · exact (reports l).trans (if_pos (and_congr_left' changes |>.2 posted))
  · exact (reports l).trans (if_neg (mt (and_congr_left' changes).1 silent))

end Sys2Proof.Machine
end

section
/-! Requests of a wrong length and requests without a free reply slot (R88, R152), and FADER (R73). -/

namespace Sys2Proof.Machine

variable {s : State} {l : Link} (tag : Byte) {ps : List Byte}

/-! Every kind but FADER and WARM RESET reserves a slot before its checks (R152). -/

theorem State.takeKind_immediate (l : Link) {k : Kind} (fader : k ≠ .fader) (warmReset : k ≠ .warmReset) (ps : List Byte) :
    ∃ (α : Type) (known : Option Group) (read : List Byte → Option α) (valid : α → State → Bool) (run : α → State → State),
      ∀ s : State, s.takeKind l k tag ps = s.immediate k l tag ps known read valid run := by
  cases k with
  | fader => exact absurd rfl fader
  | warmReset => exact absurd rfl warmReset
  | _ => exact ⟨_, _, _, _, _, fun _ => rfl⟩

theorem State.immediate_badLength {α : Type} (k : Kind) (known : Option Group) (read : List Byte → Option α)
    (valid : α → State → Bool) (run : α → State → State) (wrong : ps.length + 2 ≠ k.bodyLength) :
    s.immediate k l tag ps known read valid run = s.refuseUnreserved l tag k.code .badLength none := by
  have refused (t : State) : t.checked k l tag ps known read valid run = t.refuse l tag k.code .badLength none := if_neg wrong
  simp only [State.immediate, State.refuseUnreserved, refused]

/-- The length is read before anything else, and a slot is needed for the refusal (R88, R152). -/
theorem State.takeKind_badLength {k : Kind} (wrong : ps.length + 2 ≠ k.bodyLength) :
    s.takeKind l k tag ps = s.refuseUnreserved l tag k.code .badLength none := by
  by_cases fader : k = .fader
  · subst fader
    exact if_neg wrong
  · by_cases warmReset : k = .warmReset
    · subst warmReset
      exact if_neg wrong
    · obtain ⟨α, known, read, valid, run, taken⟩ := State.takeKind_immediate tag l fader warmReset ps
      rw [taken, State.immediate_badLength tag k known read valid run wrong]

theorem State.takeKind_full {k : Kind} (full : 12 ≤ (s.links.get l).slotsUsed) (fader : k ≠ .fader) (warmReset : k ≠ .warmReset) :
    s.takeKind l k tag ps = s.modifyLink l LinkPort.lost := by
  obtain ⟨α, known, read, valid, run, taken⟩ := State.takeKind_immediate tag l fader warmReset ps
  rw [taken]
  exact if_pos (decide_eq_true full)

/-- Settles O41. -/
theorem lengthsAndSlots : Obligations.LengthsAndSlots := by
  intro s l tag k ps running enabled lost
  have heard : exec (k.request l tag ps) s = .next ((s.heard l).takeKind l k tag ps) := by
    rw [exec_request, State.onGoodFrame_running running enabled]
  rw [heard]
  refine ⟨fun wrong room => ?_, fun full discarded => ?_⟩
  · rw [State.takeKind_badLength tag wrong, State.refuseUnreserved_free (by rwa [State.heard_slotsUsed])]
  · rw [← State.heard_slotsUsed] at full
    rcases discarded with ⟨fader, warmReset⟩ | wrong
    · rw [State.takeKind_full tag full fader warmReset]
      rfl
    · rw [State.takeKind_badLength tag wrong, State.refuseUnreserved_full full]
      rfl

/-! FADER (R73). -/

theorem readFader_words (reading : Word16) : readFader reading.bytes = some (min reading.toNat 4095) := by
  simp [readFader, Word16.bytes, clampNat_zero]

section

variable {reading : Nat} (length : ps.length + 2 = Kind.fader.bodyLength) (read : readFader ps = some reading)

include length read

theorem State.takeFader_accepted (free : s.barredFrom l .trans = false) (held : s.holder .trans = some l) :
    s.takeFader l tag ps = s.acceptReading l reading := by
  simp [State.takeFader, length, read, free, held]

theorem State.takeFader_barred (barred : s.barredFrom l .trans = true) :
    s.takeFader l tag ps = s.refuseUnreserved l tag 0x0D .barred (some .trans) := by
  simp [State.takeFader, length, read, barred, Kind.code]

theorem State.takeFader_notHeld (free : s.barredFrom l .trans = false) (unheld : s.holder .trans = none) :
    s.takeFader l tag ps = s.refuseUnreserved l tag 0x0D .notHeld (some .trans) := by
  simp [State.takeFader, length, read, free, unheld, Kind.code]

theorem State.takeFader_notHolder {h : Link} (free : s.barredFrom l .trans = false) (held : s.holder .trans = some h)
    (other : h ≠ l) : s.takeFader l tag ps = s.refuseUnreserved l tag 0x0D .notHolder (some .trans) := by
  simp [State.takeFader, length, read, free, held, other, Kind.code]

/-- A FADER that its sender may not send is refused, for one reason or another. -/
theorem State.takeFader_refused (h : s.barredFrom l .trans = true ∨ s.holder .trans ≠ some l) :
    ∃ reason, s.takeFader l tag ps = s.refuseUnreserved l tag 0x0D reason (some .trans) := by
  by_cases barred : s.barredFrom l .trans = true
  · exact ⟨_, State.takeFader_barred tag length read barred⟩
  · have free := Bool.eq_false_iff.2 barred
    cases held : s.holder .trans with
    | none => exact ⟨_, State.takeFader_notHeld tag length read free held⟩
    | some j =>
      have other : j ≠ l := fun own => h.elim barred fun notOwn => notOwn (own ▸ held)
      exact ⟨_, State.takeFader_notHolder tag length read free held other⟩

end

/-- Settles O43. -/
theorem faderReadings : Obligations.FaderReadings := by
  intro s l tag reading running enabled out
  have read := readFader_words reading
  have length : reading.bytes.length + 2 = Kind.fader.bodyLength := rfl
  have heard : exec (.fader l tag reading.bytes) s = .next ((s.heard l).takeFader l tag reading.bytes) :=
    congrArg Host.Outcome.next (State.onGoodFrame_running running enabled fun s => s.takeFader l tag reading.bytes)
  have turnedDown {reason : Reason} (room : (s.links.get l).slotsUsed < 12)
      (refused : (s.heard l).takeFader l tag reading.bytes = (s.heard l).refuseUnreserved l tag 0x0D reason (some .trans)) :
      out reason := by
    rw [← State.heard_slotsUsed] at room
    rw [State.refuseUnreserved_free room] at refused
    exact heard.trans (congrArg Host.Outcome.next refused)
  refine ⟨fun free held => ?_, fun room => ⟨fun barred => ?_, fun free unheld => ?_, fun free ⟨h, held, other⟩ => ?_⟩,
    fun full refused => ?_⟩
  · rw [heard, State.takeFader_accepted (s := s.heard l) tag length read free held, State.acceptReading, State.touch_eq]
    rfl
  · exact turnedDown room (State.takeFader_barred tag length read barred)
  · exact turnedDown room (State.takeFader_notHeld tag length read free unheld)
  · exact turnedDown room (State.takeFader_notHolder tag length read free held other)
  · obtain ⟨reason, turned⟩ := State.takeFader_refused (s := s.heard l) tag length read refused
    rw [heard, turned, State.refuseUnreserved_full (by rwa [State.heard_slotsUsed])]
    rfl

end Sys2Proof.Machine
end

section
/-! The law of the links and the queue, port by port, and with the slot of the request in hand (R86, R150, R152 to R154). -/

namespace Sys2Proof.Machine

/-! One port. -/

/-- What the law of the links asks of one port, whatever waits in the queue. -/
structure LinkPort.Lawful (p : LinkPort) : Prop where
  slots : p.slotsUsed ≤ 12
  reports : ∀ r : ReportSlot, p.transmit.countP (fun m => m.slot == some r) ≤ 1
  receiver : p.receiver.Lawful
  counters : p.counters.InRange

theorem bump_le {n : Nat} (h : n ≤ 65535) : bump n ≤ 65535 := by
  unfold bump
  split
  · next room => exact room
  · exact h

/-- A report leaves the slots of a transmit queue as they are, or adds its own where that was empty (R153). -/
theorem putReport_slots (m : Message) (q : List Message) :
    (putReport m q).map Message.slot =
      if m.slot ∈ q.map Message.slot then q.map Message.slot else q.map Message.slot ++ [m.slot] := by
  have waits : q.any (fun x => x.slot == m.slot) = true ↔ m.slot ∈ q.map Message.slot := by simp
  unfold putReport
  split
  · next there =>
    rw [if_pos (waits.1 there), List.map_map]
    refine List.map_congr_left fun x _ => ?_
    by_cases same : x.slot = m.slot <;> simp [same]
  · next absent => rw [if_neg (mt waits.2 absent), List.map_append]; rfl

theorem waitingReplies_eq (q : List Message) : waitingReplies q = (q.map Message.slot).countP Option.isNone :=
  List.countP_map.symm

theorem waitingReport_eq (q : List Message) (r : ReportSlot) :
    q.countP (fun m => m.slot == some r) = (q.map Message.slot).count (some r) := by
  rw [List.count, List.countP_map]
  rfl

/-- A report takes no reply slot. -/
theorem waitingReplies_putReport {m : Message} (report : m.slot.isNone = false) (q : List Message) :
    waitingReplies (putReport m q) = waitingReplies q := by
  rw [waitingReplies_eq, waitingReplies_eq, putReport_slots]
  split
  · rfl
  · simp [report]

theorem LinkPort.begin_reserved (p : LinkPort) : p.begin.reserved = p.reserved := by
  unfold LinkPort.begin
  split <;> rfl

theorem LinkPort.finish_reserved (p : LinkPort) : p.finish.reserved = p.reserved := by
  unfold LinkPort.finish
  split <;> rfl

namespace LinkPort.Lawful

variable {p : LinkPort}

theorem counted (h : p.Lawful) {c : Counters} (range : c.InRange) : { p with counters := c : LinkPort }.Lawful :=
  ⟨h.slots, h.reports, h.receiver, range⟩

theorem setReceiver (h : p.Lawful) {r : Receiver} (lawful : r.Lawful) : { p with receiver := r : LinkPort }.Lawful :=
  ⟨h.slots, h.reports, lawful, h.counters⟩

theorem goodFrame (h : p.Lawful) : p.goodFrame.Lawful := by
  obtain ⟨good, rest⟩ := h.counters
  exact (h.counted (c := { p.counters with rxGood := bump p.counters.rxGood }) ⟨bump_le good, rest⟩).setReceiver (r := .hunt) trivial

theorem badFrame (h : p.Lawful) : p.badFrame.Lawful := by
  obtain ⟨good, bad, rest⟩ := h.counters
  exact (h.counted (c := { p.counters with rxBad := bump p.counters.rxBad }) ⟨good, bump_le bad, rest⟩).setReceiver
    (r := .hunt) trivial

theorem lost (h : p.Lawful) : p.lost.Lawful := by
  obtain ⟨good, bad, lost, rest⟩ := h.counters
  exact h.counted ⟨good, bad, bump_le lost, rest⟩

theorem reserve (h : p.Lawful) (room : p.slotsFull = false) : p.reserve.Lawful := by
  have free : p.slotsUsed < 12 := Nat.not_le.1 (of_decide_eq_false room)
  refine ⟨?_, h.reports, h.receiver, h.counters⟩
  simp only [LinkPort.slotsUsed, LinkPort.reserve] at free ⊢
  omega

/-- Replies posted into as many slots reserved for them. -/
theorem replies (h : p.Lawful) {ms : List Message} (all : ∀ m ∈ ms, m.slot = none) (enough : ms.length ≤ p.reserved) :
    { p with reserved := p.reserved - ms.length, transmit := p.transmit ++ ms : LinkPort }.Lawful := by
  have waiting : waitingReplies ms = ms.length := List.countP_eq_length.2 fun m hm => by simp [Message.isReply, all m hm]
  refine ⟨?_, fun r => ?_, h.receiver, h.counters⟩
  · have slots := h.slots
    simp only [LinkPort.slotsUsed, waitingReplies, List.countP_append] at slots waiting ⊢
    omega
  · have none : ms.countP (fun m => m.slot == some r) = 0 := List.countP_eq_zero.2 fun m hm => by simp [all m hm]
    rw [List.countP_append, none]
    exact h.reports r

theorem reply (h : p.Lawful) {m : Message} (reply : m.slot = none) (enough : 1 ≤ p.reserved) : (p.reply m).Lawful :=
  h.replies (ms := [m]) (by simpa using reply) enough

theorem report (h : p.Lawful) {m : Message} (report : m.slot.isNone = false) : (p.report m).Lawful := by
  refine ⟨?_, fun r => ?_, h.receiver, h.counters⟩
  · simp only [LinkPort.slotsUsed, LinkPort.report, waitingReplies_putReport report]
    exact h.slots
  · have once := h.reports r
    rw [waitingReport_eq] at once
    simp only [LinkPort.report, waitingReport_eq, putReport_slots]
    split
    · exact once
    · next absent =>
      rw [List.count_append, List.count_singleton]
      split
      · next same => rw [← eq_of_beq same, List.count_eq_zero.2 absent]
      · exact once

/-- Messages leave the transmit queue. -/
theorem sublist (h : p.Lawful) {q : List Message} (less : q.Sublist p.transmit) : { p with transmit := q : LinkPort }.Lawful :=
  ⟨(Nat.add_le_add_left less.countP_le _).trans h.slots, fun r => less.countP_le.trans (h.reports r), h.receiver, h.counters⟩

theorem dropReports (h : p.Lawful) : p.dropReports.Lawful := h.sublist List.filter_sublist

theorem begin (h : p.Lawful) : p.begin.Lawful := by
  unfold LinkPort.begin
  split
  · next m rest _ queue =>
    have left := h.sublist (q := rest) (queue ▸ List.sublist_cons_self m rest)
    exact ⟨left.slots, left.reports, left.receiver, left.counters⟩
  · exact h
  · exact h

theorem finish (h : p.Lawful) : p.finish.Lawful := by
  unfold LinkPort.finish
  split
  · exact h
  · next m _ =>
    obtain ⟨good, bad, lost, sent, refused⟩ := h.counters
    refine ⟨h.slots, h.reports, h.receiver, ?_⟩
    cases m with
    | done => exact ⟨good, bad, lost, bump_le sent, refused⟩
    | refused => exact ⟨good, bad, lost, sent, bump_le refused⟩
    | bankState | tally | holdings | status => exact h.counters

/-- The entries of a link answered WITHDRAWN, for each of which a slot is reserved (R94). -/
theorem withdrawn (h : p.Lawful) {l : Link} {es : List Entry} (enough : (es.filter fun e => e.link == l).length ≤ p.reserved) :
    (p.withdrawn l es).Lawful := by
  have answered := h.replies (ms := (es.filter fun e => e.link == l).map fun e =>
    .refused e.tag e.action.kind.code .withdrawn) (fun m hm => ?_) (by simpa using enough)
  · rw [List.length_map] at answered
    exact answered
  · obtain ⟨e, -, rfl⟩ := List.mem_map.1 hm
    rfl

end LinkPort.Lawful

theorem freshPort_lawful : freshPort.Lawful :=
  ⟨Nat.zero_le _, fun _ => Nat.zero_le _, trivial, by simp [freshPort, zeroCounters, Counters.InRange]⟩

theorem zeroCounters_inRange : zeroCounters.InRange := freshPort_lawful.counters

/-- A body byte puts the receiver where its state says (R150). -/
theorem nextReceiver_lawful {n : Nat} {got : List Byte} (h : (Receiver.body n got).Lawful) (b : Byte) :
    (nextReceiver n (got ++ [b])).Lawful := by
  obtain ⟨low, high, short⟩ := h
  unfold nextReceiver
  split
  · next full =>
    rw [List.length_append, List.length_singleton] at full
    exact ⟨low, high, by rw [List.length_append, List.length_singleton]; omega⟩
  · next more => exact ⟨low, high, Nat.not_le.1 more⟩

/-! The whole law. -/

/-- The law of the links with one slot more reserved on the link `owed`: that of a request in hand, or of an entry being applied,
until it is answered or waits in the queue (R152). -/
structure State.LinksLawOwing (s : State) (owed : Option Link) : Prop where
  queueRoom : s.queue.length ≤ 16
  reserved : ∀ l, (s.links.get l).reserved = s.waiting l + if owed = some l then 1 else 0
  ports : ∀ l, (s.links.get l).Lawful

theorem State.linksLaw_iff (s : State) : s.LinksLaw ↔ s.LinksLawOwing none := by
  refine ⟨fun h => ⟨h.queueRoom, h.reserved, fun l => ⟨h.slots l, h.reports l, h.receivers l, h.counters l⟩⟩, fun h => ?_⟩
  exact ⟨h.queueRoom, h.reserved, fun l => (h.ports l).slots, fun l => (h.ports l).reports, fun l => (h.ports l).receiver,
    fun l => (h.ports l).counters⟩

variable {s t : State} {owed : Option Link}

namespace State.LinksLawOwing

/-- The law reads the queue and the ports. -/
theorem of_eq (h : s.LinksLawOwing owed) (queue : t.queue = s.queue) (links : t.links = s.links) : t.LinksLawOwing owed := by
  obtain ⟨room, reserved, ports⟩ := h
  simp only [State.waiting, ← queue, ← links] at room reserved ports
  exact ⟨room, reserved, ports⟩

/-- The ports change one by one, each keeping its reserved slots. -/
theorem of_ports (h : s.LinksLawOwing owed) (queue : t.queue = s.queue)
    (reserved : ∀ l, (t.links.get l).reserved = (s.links.get l).reserved) (ports : ∀ l, (t.links.get l).Lawful) :
    t.LinksLawOwing owed where
  queueRoom := queue ▸ h.queueRoom
  reserved l := by rw [reserved, h.reserved]; simp only [State.waiting, queue]
  ports := ports

theorem modifyLink (h : s.LinksLawOwing owed) (l : Link) {f : LinkPort → LinkPort} (reserved : ∀ p, (f p).reserved = p.reserved)
    (lawful : ∀ p : LinkPort, p.Lawful → (f p).Lawful) : (s.modifyLink l f).LinksLawOwing owed := by
  refine h.of_ports rfl (fun j => ?_) fun j => ?_
  · rw [State.modifyLink_links, PerLink.get_modify]
    split
    · next here => rw [reserved, here]
    · rfl
  · rw [State.modifyLink_links, PerLink.get_modify]
    split
    · exact lawful _ (h.ports l)
    · exact h.ports j

/-! Slots reserved, and paid with an answer or an entry. -/

theorem reserve (h : s.LinksLawOwing none) {l : Link} (room : (s.links.get l).slotsFull = false) :
    (s.modifyLink l LinkPort.reserve).LinksLawOwing (some l) where
  queueRoom := h.queueRoom
  reserved j := by
    have before := h.reserved j
    rw [State.modifyLink_links, PerLink.get_modify]
    split
    · next here => subst here; simpa [LinkPort.reserve, State.waiting] using before
    · next other => simpa [State.waiting, Ne.symm other] using before
  ports j := by
    rw [State.modifyLink_links, PerLink.get_modify]
    split
    · exact (h.ports l).reserve room
    · exact h.ports j

theorem pay {l : Link} (h : s.LinksLawOwing (some l)) {m : Message} (reply : m.slot = none) :
    (s.modifyLink l fun p => p.reply m).LinksLawOwing none where
  queueRoom := h.queueRoom
  reserved j := by
    have before := h.reserved j
    rw [State.modifyLink_links, PerLink.get_modify]
    split
    · next here => subst here; simp [LinkPort.reply, State.waiting, before]
    · next other => simpa [State.waiting, Ne.symm other] using before
  ports j := by
    rw [State.modifyLink_links, PerLink.get_modify]
    split
    · exact (h.ports l).reply reply (by simp [h.reserved l])
    · exact h.ports j

theorem answer {l : Link} (h : s.LinksLawOwing (some l)) (tag : Byte) (k : Kind) (data : List Byte) :
    (s.answer l tag k data).LinksLawOwing none := h.pay rfl

theorem refuse {l : Link} (h : s.LinksLawOwing (some l)) (tag kind : Byte) (reason : Reason) (g : Option Group) :
    (s.refuse l tag kind reason g).LinksLawOwing none := (h.pay (m := .refused tag kind reason) rfl).of_eq rfl rfl

/-- A request in hand joins the queue, and its entry keeps the slot (R87). -/
theorem enqueue {e : Entry} (h : s.LinksLawOwing (some e.link)) (room : s.queue.length < 16) :
    (s.setQueue (s.queue ++ [e])).LinksLawOwing none where
  queueRoom := by simpa using room
  reserved l := by
    have before := h.reserved l
    simpa [State.waiting, List.countP_append, List.countP_singleton] using before
  ports := h.ports

/-- The front entry is taken in hand (R92). -/
theorem dequeue (h : s.LinksLawOwing none) {e : Entry} {rest : List Entry} (queue : s.queue = e :: rest) :
    (s.setQueue rest).LinksLawOwing (some e.link) where
  queueRoom := by
    have room := h.queueRoom
    rw [queue, List.length_cons] at room
    exact (Nat.le_succ _).trans room
  reserved l := by
    have before := h.reserved l
    simpa [State.waiting, queue, List.countP_cons] using before
  ports := h.ports

/-! Reports, and moves of the holdings table. -/

theorem postWhere (h : s.LinksLawOwing owed) (want : Link → Bool) {m : Message} (report : m.slot.isNone = false) :
    (s.postWhere want m).LinksLawOwing owed := by
  rw [State.postWhere_eq]
  refine h.of_ports rfl (fun l => ?_) fun l => ?_
  · rw [State.setLinks_links, PerLink.get_ofFn]
    split <;> rfl
  · rw [State.setLinks_links, PerLink.get_ofFn]
    split
    · exact (h.ports l).report report
    · exact h.ports l

/-- The entries withdrawn leave the queue with the slots reserved for them. -/
theorem moveHoldings (h : s.LinksLawOwing owed) (new : PerGroup Holding) (also : Entry → Bool) :
    (s.moveHoldings new also).LinksLawOwing owed := by
  obtain ⟨moved, ports⟩ := s.moveHoldings_eq new also
  have left (l : Link) (gone : Entry → Bool) : s.waiting l = (s.queue.filter fun e => !gone e).countP (fun e => e.link == l) +
      ((s.queue.filter gone).filter fun e => e.link == l).length := by
    rw [← List.countP_eq_length_filter, Nat.add_comm]
    exact List.countP_eq_countP_filter_add s.queue _ gone
  refine ⟨?_, fun l => ?_, fun l => ?_⟩
  · rw [moved]
    exact (List.length_filter_le _ _).trans h.queueRoom
  · have before := h.reserved l
    rw [left l fun e => also e || displaced s.arbiter.holdings new e] at before
    rw [ports, moved]
    simp only [LinkPort.withdrawn, State.waiting, before]
    omega
  · have before := h.reserved l
    rw [left l fun e => also e || displaced s.arbiter.holdings new e] at before
    rw [ports]
    exact (h.ports l).withdrawn (by omega)

theorem reportHoldings (h : s.LinksLawOwing owed) (old : PerGroup Holding) (f : FrameCount) :
    (s.reportHoldings old f).LinksLawOwing owed := by
  unfold State.reportHoldings
  split
  · exact h
  · exact h.postWhere _ rfl

theorem changeHoldings (h : s.LinksLawOwing owed) (new : PerGroup Holding) : (s.changeHoldings new).LinksLawOwing owed :=
  (h.moveHoldings new noEntry).reportHoldings _ _

theorem touch (h : s.LinksLawOwing owed) (l : Link) (g : Group) : (s.touch l g).LinksLawOwing owed := by
  rw [State.touch_eq]
  exact h.of_eq rfl rfl

theorem updateReference (h : s.LinksLawOwing owed) (u : ReferenceUnit) : (s.updateReference u).LinksLawOwing owed := by
  have set : (s.setReference u).LinksLawOwing owed := h.of_eq rfl rfl
  unfold State.updateReference
  dsimp only
  split
  · exact set
  · exact set.postWhere _ rfl

theorem changeFormat (h : s.LinksLawOwing owed) (f : Format) (signals : PerInput InputSignal) :
    (s.changeFormat f signals).LinksLawOwing owed := by
  rw [s.changeFormat_eq f signals]
  split
  · exact h.of_eq rfl rfl
  · refine postWhere ?_ _ rfl
    exact h.of_eq rfl rfl

theorem sweepHoldings (h : s.LinksLawOwing owed) (f : FrameCount) : (s.sweepHoldings f).LinksLawOwing owed :=
  (h.moveHoldings _ noEntry).reportHoldings _ _

theorem takeOwedSweep (h : s.LinksLawOwing owed) : s.takeOwedSweep.LinksLawOwing owed := by
  unfold State.takeOwedSweep
  split
  · exact (h.sweepHoldings _).of_eq rfl rfl
  · exact h

end State.LinksLawOwing

end Sys2Proof.Machine
end

section
/-! Every step keeps the queue and the links within their limits (R86, R150, R152 to R154). -/

namespace Sys2Proof.Machine

variable {s t : State} {owed : Option Link}

namespace State.LinksLawOwing

/-! Checks: a slot reserved for a request is paid with its answer, or kept by its entry. -/

theorem withReplySlot (h : s.LinksLawOwing none) {l : Link} {handle : State → State}
    (taken : ∀ t : State, t.LinksLawOwing (some l) → (handle t).LinksLawOwing none) :
    (s.withReplySlot l handle).LinksLawOwing none := by
  unfold State.withReplySlot
  split
  · exact h.modifyLink l (fun _ => rfl) fun _ => LinkPort.Lawful.lost
  · next room => exact taken _ (h.reserve (Bool.eq_false_iff.2 room))

theorem refuseUnreserved (h : s.LinksLawOwing none) (l : Link) (tag kind : Byte) (reason : Reason) (g : Option Group) :
    (s.refuseUnreserved l tag kind reason g).LinksLawOwing none :=
  h.withReplySlot fun _ ht => ht.refuse _ _ _ _

theorem onGoodFrame (h : s.LinksLawOwing none) (l : Link) {handle : State → State}
    (taken : ∀ t : State, t.LinksLawOwing none → (handle t).LinksLawOwing none) : (s.onGoodFrame l handle).LinksLawOwing none := by
  have counted : (s.modifyLink l LinkPort.goodFrame).LinksLawOwing none :=
    h.modifyLink l (fun _ => rfl) fun _ => LinkPort.Lawful.goodFrame
  unfold State.onGoodFrame
  dsimp only
  split
  · split
    · exact taken _ counted
    · exact counted
  · exact h

theorem admission {l : Link} (h : s.LinksLawOwing (some l)) (tag : Byte) (a : Action) :
    (s.admission l tag a).LinksLawOwing none := by
  unfold State.admission
  split
  · exact h.refuse _ _ _ _
  · split_ifs with full
    · exact h.refuse _ _ _ _
    · exact h.refuse _ _ _ _
    · have joined := enqueue (e := ⟨l, tag, a⟩) h (Nat.not_le.1 full)
      cases a.group with
      | none => exact joined
      | some g => exact joined.touch l g

theorem immediate {α : Type} (h : s.LinksLawOwing none) (k : Kind) {l : Link} (tag : Byte) (ps : List Byte) (known : Option Group)
    (read : List Byte → Option α) (valid : α → State → Bool) {run : α → State → State}
    (taken : ∀ a (t : State), t.LinksLawOwing (some l) → (run a t).LinksLawOwing none) :
    (s.immediate k l tag ps known read valid run).LinksLawOwing none := by
  refine h.withReplySlot fun t ht => ?_
  unfold State.checked
  split
  · split
    · exact ht.refuse _ _ _ _
    · next a _ =>
      split
      · exact taken a t ht
      · exact ht.refuse _ _ _ _
  · exact ht.refuse _ _ _ _

theorem groupChecked {l : Link} (h : s.LinksLawOwing (some l)) (k : Kind) (tag : Byte) (g : Group) (lockable : Bool)
    {run : State → State} (taken : (run s).LinksLawOwing none) : (s.groupChecked k l tag g lockable run).LinksLawOwing none := by
  unfold State.groupChecked
  split
  · exact h.refuse _ _ _ _
  · split
    · exact h.refuse _ _ _ _
    · exact taken

theorem immediateGroup {α : Type} (h : s.LinksLawOwing none) (k : Kind) {l : Link} (tag : Byte) (ps : List Byte) (g : Group)
    (lockable : Bool) (read : List Byte → Option α) (valid : α → State → Bool) {run : α → State → State}
    (data : α → State → List Byte) (taken : ∀ a (t : State), t.LinksLawOwing (some l) → (run a t).LinksLawOwing (some l)) :
    (s.immediateGroup k l tag ps g lockable read valid run data).LinksLawOwing none :=
  h.immediate k tag ps _ read valid fun a _ ht => ht.groupChecked k tag g lockable (((taken a _ ht).touch l g).answer tag k _)

/-! Requests. -/

theorem takeFader (h : s.LinksLawOwing none) (l : Link) (tag : Byte) (ps : List Byte) : (s.takeFader l tag ps).LinksLawOwing none := by
  have refused (reason : Reason) (g : Option Group) := h.refuseUnreserved l tag Kind.fader.code reason g
  have accepted (reading : Nat) : (s.acceptReading l reading).LinksLawOwing none := by
    refine touch ?_ l .trans
    exact h.of_eq rfl rfl
  unfold State.takeFader
  split
  · split
    · exact refused _ _
    · split
      · exact refused _ _
      · split
        · exact refused _ _
        · split
          · exact accepted _
          · exact refused _ _
  · exact refused _ _

theorem takeClaim (h : s.LinksLawOwing none) {change : State → PerGroup Holding → State} (l : Link)
    (changed : ∀ (t : State) new, t.LinksLawOwing (some l) → (change t new).LinksLawOwing (some l)) (tag : Byte) (ps : List Byte) :
    (s.takeClaim change l tag ps).LinksLawOwing none := by
  refine h.immediate _ _ _ _ _ _ fun g t ht => ?_
  unfold State.carryOutClaim
  split
  · exact ht.refuse _ _ _ _
  · split
    · exact ht.refuse _ _ _ _
    · exact (changed t _ ht).answer _ _ _

theorem carryOutRelease {l : Link} (h : s.LinksLawOwing (some l)) (tag : Byte) (scope : ReleaseScope) :
    (s.carryOutRelease l tag scope).LinksLawOwing none := by
  unfold State.carryOutRelease
  dsimp only
  split
  · exact h.refuse _ _ _ _
  · exact (h.changeHoldings _).answer _ _ _

theorem takeRelease (h : s.LinksLawOwing none) (l : Link) (tag : Byte) (ps : List Byte) :
    (s.takeRelease l tag ps).LinksLawOwing none := by
  refine h.immediate _ _ _ _ _ _ fun (scope, drain) t ht => ?_
  dsimp only
  split
  · exact ht.admission tag _
  · exact ht.carryOutRelease tag scope

theorem takeUnassignStatic (h : s.LinksLawOwing none) (l : Link) (tag : Byte) (ps : List Byte) :
    (s.takeUnassignStatic l tag ps).LinksLawOwing none := by
  refine h.immediate _ _ _ _ _ _ fun g t ht => ht.groupChecked _ _ _ _ ?_
  unfold State.carryOutUnassign
  split
  · exact ((ht.changeHoldings _).touch l .setup).answer _ _ _
  · exact ht.refuse _ _ _ _
  · exact ht.refuse _ _ _ _

/-- The steps of SET LINK withdraw entries with their slots and drop reports (R119). -/
theorem changeLink (h : s.LinksLawOwing owed) (l : Link) (a : LinkAttributes) : (s.changeLink l a).LinksLawOwing owed := by
  have attributes {u : State} (hu : u.LinksLawOwing owed) (b : LinkAttributes) : (u.setAttributes l b).LinksLawOwing owed :=
    hu.of_eq rfl rfl
  have dropped {u : State} (hu : u.LinksLawOwing owed) : (u.modifyLink l LinkPort.dropReports).LinksLawOwing owed :=
    hu.modifyLink l (fun _ => rfl) fun _ => LinkPort.Lawful.dropReports
  have barred : (s.setBarred l a.barred).LinksLawOwing owed := (attributes h _).moveHoldings _ _
  have enabled : ((s.setBarred l a.barred).setEnabled l a.enabled).LinksLawOwing owed := by
    unfold State.setEnabled
    dsimp only
    split
    · exact dropped ((attributes barred _).moveHoldings _ _)
    · exact attributes barred _
  have reports {u : State} (hu : u.LinksLawOwing owed) : (u.setReports l a.reports).LinksLawOwing owed := by
    unfold State.setReports
    dsimp only
    split
    · exact dropped (attributes hu _)
    · exact attributes hu _
  have ranked : (((s.setBarred l a.barred).setEnabled l a.enabled).setRank l a.rank).LinksLawOwing owed := attributes enabled _
  have told := (reports ranked).reportHoldings s.arbiter.holdings s.reference.frameCount
  unfold State.changeLink
  dsimp only
  split
  · refine postWhere ?_ _ rfl
    exact told.of_eq rfl rfl
  · exact told

theorem setLock (h : s.LinksLawOwing owed) : s.setLock.LinksLawOwing owed := by
  unfold State.setLock
  split
  · exact h
  · refine postWhere ?_ _ rfl
    exact h.of_eq rfl rfl

/-- A warm reset leaves nothing waiting and every port fresh (R163). -/
theorem warmRestart (s : State) : s.warmRestart.LinksLawOwing none := by
  obtain ⟨links, queue, -⟩ := s.warmRestart_atRest
  refine ⟨?_, fun l => ?_, fun l => ?_⟩
  · rw [queue]; exact Nat.zero_le _
  · rw [links, State.waiting, queue]; rfl
  · rw [links]; exact freshPort_lawful

theorem takeWarmReset (h : s.LinksLawOwing none) (l : Link) (tag : Byte) (ps : List Byte) :
    (s.takeWarmReset l tag ps).LinksLawOwing none := by
  unfold State.takeWarmReset
  split
  · split
    · exact h.refuseUnreserved _ _ _ _ _
    · exact (warmRestart s).of_eq rfl rfl
  · exact h.refuseUnreserved _ _ _ _ _

/-- READ COUNTERS zeroes the counters it reads (R155). -/
theorem takeReadCounters (h : s.LinksLawOwing none) (l : Link) (tag : Byte) (ps : List Byte) :
    (s.takeReadCounters l tag ps).LinksLawOwing none :=
  h.immediate _ _ _ _ _ _ fun j _ ht =>
    (ht.modifyLink j (f := fun p => { p with counters := zeroCounters }) (fun _ => rfl)
      fun _ hp => hp.counted zeroCounters_inRange).answer _ _ _

/-- The request of any kind. -/
theorem takeKind (h : s.LinksLawOwing none) (l : Link) (k : Kind) (tag : Byte) (ps : List Byte) :
    (s.takeKind l k tag ps).LinksLawOwing none := by
  cases k with
  | fader => exact h.takeFader l tag ps
  | claim => exact h.takeClaim l (fun _ new ht => ht.changeHoldings new) tag ps
  | release => exact h.takeRelease l tag ps
  | unassignStatic => exact h.takeUnassignStatic l tag ps
  | warmReset => exact h.takeWarmReset l tag ps
  | readCounters => exact h.takeReadCounters l tag ps
  | assignStatic => exact h.immediateGroup _ _ _ _ _ _ _ _ fun _ _ ht => ht.changeHoldings _
  | setLink => exact h.immediateGroup _ _ _ _ _ _ _ _ fun (j, a) _ ht => ht.changeLink j a
  | lockSetup => exact h.immediateGroup _ _ _ _ _ _ _ _ fun _ _ ht => ht.setLock
  | clearReferenceFlag => exact h.immediateGroup _ _ _ _ _ _ _ _ fun _ _ ht => ht.updateReference _
  | store | erase | setRephase | setAging | clearLog =>
    exact h.immediateGroup _ _ _ _ _ _ _ _ fun _ _ ht => ht.of_eq rfl rfl
  | walkMemory | walkHoldings =>
    refine h.immediate _ _ _ _ _ _ fun _ _ ht => answer ?_ _ _ _
    exact ht.of_eq rfl rfl
  | queryBank | queryTally | queryStatus | readLog => exact h.immediate _ _ _ _ _ _ fun _ _ ht => ht.answer _ _ _
  | select | matte | nextSet | transitionSetup | faderSetup | auto | cut | keyOrder | keySelect | keySetup | keyMask | keyCut
  | recallEffects | setFormat | setOutputRange => exact h.immediate _ _ _ _ _ _ fun a _ ht => ht.admission tag a

/-- A row of works, each of which keeps the law. -/
theorem foldl {α : Type} {f : State → α → State} (each : ∀ (t : State) a, t.LinksLawOwing none → (f t a).LinksLawOwing none)
    (as : List α) (h : s.LinksLawOwing none) : (as.foldl f s).LinksLawOwing none :=
  List.foldlRecOn (motive := fun t => t.LinksLawOwing none) as f h fun t ht a _ => each t a ht

theorem hearKind (h : s.LinksLawOwing none) (l : Link) (k : Kind) (tag : Byte) (ps : List Byte) :
    (s.onGoodFrame l fun s => s.takeKind l k tag ps).LinksLawOwing none :=
  h.onGoodFrame l fun _ ht => ht.takeKind l k tag ps

theorem hearFrame (h : s.LinksLawOwing none) (f : RequestFrame) : (s.hearFrame f).LinksLawOwing none := by
  unfold State.hearFrame
  split
  · split
    · exact h.hearKind _ _ _ _
    · exact h
  · exact h

/-- A queued request with those that come together with it. -/
theorem arrive (h : s.LinksLawOwing none) (l : Link) (k : Kind) (tag : Byte) (params : Params) :
    (s.arrive l params fun s => s.takeKind l k tag params.bytes).LinksLawOwing none := by
  refine foldl (fun _ f hu => hu.hearFrame f) _ (hearKind ?_ l k tag params.bytes)
  exact foldl (fun _ f hu => hu.hearFrame f) _ h

/-- A request of any kind but CLAIM. -/
theorem request (h : s.LinksLawOwing none) {c : Instr} {r : Kind × Link × Byte × Params} (asked : requestOf c = some r)
    (e : exec c s = .next t) : t.LinksLawOwing none := by
  obtain ⟨k, l, tag, params⟩ := r
  rw [exec_requestOf s asked] at e
  exact Host.Outcome.next.inj e ▸ h.arrive l k tag params

theorem claim (h : s.LinksLawOwing none) {l : Link} {tag : Byte} {params : ClaimParams}
    (e : exec (.claim l tag params) s = .next t) : t.LinksLawOwing none := by
  obtain rfl := Host.Outcome.next.inj e
  split
  · exact h.hearKind l .claim tag _
  · refine reportHoldings ?_ _ _
    exact foldl (fun _ f hu => hu.onGoodFrame f.link fun _ ht =>
      ht.takeClaim f.link (fun _ new hv => hv.moveHoldings new noEntry) _ _) _ h

theorem takeBody (h : s.LinksLawOwing none) (l : Link) (body : List Byte) : (s.takeBody l body).LinksLawOwing none := by
  refine h.onGoodFrame l fun t ht => ?_
  split
  · unfold State.takeRequest
    split
    · exact ht.refuseUnreserved _ _ _ _ _
    · exact ht.takeKind _ _ _ _
  · exact ht
  · exact ht

/-! The receiver. -/

theorem discardFrame (h : s.LinksLawOwing none) (l : Link) : (s.discardFrame l).LinksLawOwing none := by
  unfold State.discardFrame
  split
  · exact h.modifyLink l (fun _ => rfl) fun _ => LinkPort.Lawful.badFrame
  · exact h

theorem receiveByte (h : s.LinksLawOwing none) (l : Link) (b : Byte) : (s.receiveByte l b).LinksLawOwing none := by
  have moved {r : Receiver} (lawful : r.Lawful) : (s.setReceiver l r).LinksLawOwing none :=
    h.modifyLink l (fun _ => rfl) fun _ hp => hp.setReceiver lawful
  have now := (h.ports l).receiver
  unfold State.receiveByte
  split
  · split
    · exact moved trivial
    · exact h
  · split
    · next range => exact moved ⟨range.1, range.2, Nat.lt_of_lt_of_le (by decide) range.1⟩
    · exact h.discardFrame l
  · next n got amid => exact moved (nextReceiver_lawful (amid ▸ now) b)
  · split
    · exact h.takeBody l _
    · exact h.discardFrame l

theorem byteReceived (h : s.LinksLawOwing none) {l : Link} {b : Byte} {stopValid : Bool}
    (e : exec (.byteReceived l b stopValid) s = .next t) : t.LinksLawOwing none := by
  obtain rfl := Host.Outcome.next.inj e
  split
  · split
    · exact h.receiveByte l b
    · unfold State.receiveError
      split
      · exact h
      · exact h.discardFrame l
  · exact h

/-! A boundary. -/

/-- The application of an entry pays the slot reserved for it (R92, R152). -/
theorem applyEntry {e : Entry} (h : s.LinksLawOwing (some e.link)) (signals : PerInput InputSignal) :
    (s.applyEntry signals e).LinksLawOwing none := by
  have refused (reason : Reason) : (s.refuseEntry e reason).LinksLawOwing none := h.refuse _ _ _ _
  have answered (b : Bank) (c : Compositor) (data : List Byte) :
      (({ s with bank := b, compositor := c } : State).answerEntry e data).LinksLawOwing none := by
    refine answer ?_ _ _ _
    exact h.of_eq rfl rfl
  rcases e with ⟨l, tag, a⟩
  cases a with
  | select => unfold State.applyEntry State.applySelect; dsimp only; split <;> [exact refused _; exact answered _ _ _]
  | nextSet => unfold State.applyEntry State.applyNextSet; dsimp only; split <;> [exact refused _; exact answered _ _ _]
  | transitionSetup =>
    unfold State.applyEntry State.applyTransitionSetup; dsimp only; split <;> [exact refused _; exact answered _ _ _]
  | faderSetup => unfold State.applyEntry State.applyFaderSetup; dsimp only; split <;> [exact refused _; exact answered _ _ _]
  | keyOrder => unfold State.applyEntry State.applyKeyOrder; dsimp only; split <;> [exact refused _; exact answered _ _ _]
  | keyCut => unfold State.applyEntry State.applyKeyCut; dsimp only; split <;> [exact refused _; exact answered _ _ _]
  | auto =>
    unfold State.applyEntry State.applyAuto
    dsimp only
    split
    · exact answered _ _ _
    · exact answered _ _ _
    · exact refused _
  | recallEffects =>
    unfold State.applyEntry State.applyRecall
    dsimp only
    split_ifs
    · exact refused _
    · exact refused _
    · exact refused _
    · exact answered _ _ _
  | release scope => exact h.carryOutRelease tag scope
  | setFormat f =>
    unfold State.applyEntry State.applySetFormat
    dsimp only
    split_ifs
    · exact refused _
    · exact answered _ _ _
    · exact (h.changeFormat f signals).answer _ _ _
  | matte | cut | keySelect | keySetup | keyMask | setOutputRange => exact answered _ _ _

theorem applyQueue (h : s.LinksLawOwing none) (signals : PerInput InputSignal) : (s.applyQueue signals).LinksLawOwing none :=
  State.applyRounds_keeps (P := fun t => t.LinksLawOwing none) (fun _ _ _ queue ht => (ht.dequeue queue).applyEntry signals) _ s h

theorem reportBank (h : s.LinksLawOwing owed) (before : Tally) : (s.reportBank before).LinksLawOwing owed := by
  have told (want want' : Link → Bool) := (h.postWhere want (m := s.bankMessage) rfl).postWhere want' (m := s.tallyMessage) rfl
  unfold State.reportBank
  exact (told _ _).of_eq rfl rfl

theorem closeBoundary (h : s.LinksLawOwing owed) (before : PerInput InputStatus) : (s.closeBoundary before).LinksLawOwing owed := by
  have lit : (s.setCompositor { s.compositor with blackout := false }).LinksLawOwing owed := h.of_eq rfl rfl
  unfold State.closeBoundary
  dsimp only
  split
  · unfold State.endInitialisation
    refine postWhere (postWhere (postWhere (postWhere ?_ _ rfl) _ rfl) _ rfl) _ rfl
    exact h.of_eq rfl rfl
  · split
    · exact lit
    · exact lit.postWhere _ rfl
  · exact lit
  · exact lit

theorem boundary (h : s.LinksLawOwing none) (signals : PerInput InputSignal) (instant : Nat) :
    (s.boundary signals instant).LinksLawOwing none := by
  have opened : (s.takeOwedSweep.openBoundary signals instant).LinksLawOwing none := h.takeOwedSweep.of_eq rfl rfl
  have processed : ((s.takeOwedSweep.openBoundary signals instant).processBank signals).LinksLawOwing none :=
    (opened.applyQueue signals).of_eq rfl rfl
  exact (processed.reportBank _).closeBoundary _

/-! The reference unit. -/

theorem pulse (h : s.LinksLawOwing none) (instant : Nat) (signals : PerInput InputSignal) :
    (s.pulse instant signals).LinksLawOwing none := by
  have set (u : ReferenceUnit) : (s.setReference u).LinksLawOwing none := h.of_eq rfl rfl
  have waiting : (s.pulseWaiting instant signals).LinksLawOwing none := by
    unfold State.pulseWaiting
    dsimp only
    split_ifs
    · exact h.updateReference _
    · exact (h.updateReference _).boundary signals instant
    · exact set _
  have locked (due : Nat) : (s.pulseLocked due instant signals).LinksLawOwing none := by
    unfold State.pulseLocked
    dsimp only
    split_ifs
    · exact (set _).boundary signals instant
    · exact set _
  unfold State.pulse
  dsimp only
  split
  · exact h.updateReference _
  · split
    · split
      · exact h.updateReference _
      · exact h.updateReference _
      · exact waiting
      · exact locked _
    · split
      · exact h.updateReference _
      · exact h.updateReference _
      · exact h.updateReference _
      · exact h

theorem missingPulse (h : s.LinksLawOwing none) (e : exec .missingPulse s = .next t) : t.LinksLawOwing none := by
  obtain rfl := Host.Outcome.next.inj e
  split
  · exact h
  · split
    · exact h
    · exact h.updateReference _

theorem sweep (h : s.LinksLawOwing none) (e : exec .sweep s = .next t) : t.LinksLawOwing none := by
  obtain rfl := Host.Outcome.next.inj e
  split
  · exact h.takeOwedSweep
  · exact h
  · split
    · exact (h.sweepHoldings _).of_eq rfl rfl
    · exact h

end State.LinksLawOwing

/-- Every command keeps the law. -/
theorem exec_linksLaw (c : Instr) (h : s.LinksLawOwing none) (e : exec c s = .next t) : t.LinksLawOwing none := by
  cases c with
  | frameBoundary signals =>
    obtain rfl := Host.Outcome.next.inj e
    split
    · exact h
    · exact h.boundary _ _
  | referencePulse instant signals =>
    obtain rfl := Host.Outcome.next.inj e
    split
    · exact h
    · exact h.pulse _ _
  | sweep => exact h.sweep e
  | missingPulse => exact h.missingPulse e
  | signalLoss i first last =>
    obtain rfl := Host.Outcome.next.inj e
    split
    · exact h.of_eq rfl rfl
    · exact h
  | claim l tag params => exact h.claim e
  | undefinedKind l kind tag ps => exact Host.Outcome.next.inj e ▸ h.takeBody l _
  | disabledLinkFrame l kind tag ps => exact Host.Outcome.next.inj e ▸ h.takeBody l _
  | frameDiscarded l cause => exact Host.Outcome.next.inj e ▸ h.discardFrame l
  | byteGapExpiry l =>
    obtain rfl := Host.Outcome.next.inj e
    split
    · exact h
    · exact h.discardFrame l
  | transmissionBegins l =>
    exact Host.Outcome.next.inj e ▸ h.modifyLink l LinkPort.begin_reserved fun _ => LinkPort.Lawful.begin
  | transmissionEnds l =>
    exact Host.Outcome.next.inj e ▸ h.modifyLink l LinkPort.finish_reserved fun _ => LinkPort.Lawful.finish
  | byteReceived l b stopValid => exact h.byteReceived e
  | coldResetAsserted => exact Host.Outcome.next.inj e ▸ (State.linksLaw_iff _).1 (coldState_linksLaw _ _ _ _)
  | coldResetReleased timerDue =>
    obtain rfl := Host.Outcome.next.inj e
    split <;> exact h.of_eq rfl rfl
  | warmResetAsserted =>
    obtain rfl := Host.Outcome.next.inj e
    split
    · exact h.of_eq rfl rfl
    · exact (State.LinksLawOwing.warmRestart s).of_eq rfl rfl
  | warmResetReleased => exact Host.Outcome.next.inj e ▸ h.of_eq rfl rfl
  | _ => exact h.request rfl e

/-- Settles O7. A reply slot is reserved where one is free, and is given back with the answer, at once or when the entry that keeps
it is applied or withdrawn; reports take their own slots, once each. -/
theorem linksLawKept : Obligations.LinksLawKept := by
  intro s t h e
  rw [State.linksLaw_iff] at h ⊢
  unfold step at e
  split at e
  · exact Host.Outcome.next.inj e ▸ h
  · next c rest _ => exact exec_linksLaw c (h.of_eq (t := { s with pending := rest }) rfl rfl) e

end Sys2Proof.Machine
end

section
/-! Every command completes, and none touches the waiting commands. -/

namespace Sys2Proof.Machine

variable (s : State)

theorem State.takeWarmReset_pending (l : Link) (tag : Byte) (ps : List Byte) : (s.takeWarmReset l tag ps).pending = s.pending := by
  have refused (reason : Reason) (g : Option Group) := s.undisturbed_refuseUnreserved l tag Kind.warmReset.code reason g
  unfold State.takeWarmReset
  split
  · split
    · exact (refused _ _).pending
    · rfl
  · exact (refused _ _).pending

theorem State.takeKind_pending (l : Link) (k : Kind) (tag : Byte) (ps : List Byte) : (s.takeKind l k tag ps).pending = s.pending := by
  by_cases warm : k = .warmReset
  · subst warm
    exact s.takeWarmReset_pending l tag ps
  · exact (s.undisturbed_takeKind l k tag ps warm).pending

theorem State.onGoodFrame_pending (l : Link) {handle : State → State} (h : ∀ t : State, (handle t).pending = t.pending) :
    (s.onGoodFrame l handle).pending = s.pending := by
  unfold State.onGoodFrame
  dsimp only
  split
  · split
    · exact h _
    · rfl
  · rfl

theorem State.hearFrame_pending (f : RequestFrame) : (s.hearFrame f).pending = s.pending := by
  unfold State.hearFrame
  split
  · split
    · exact s.onGoodFrame_pending _ fun t => t.takeKind_pending _ _ _ _
    · rfl
  · rfl

/-- A row of works, none of which touches the waiting commands. -/
theorem State.foldl_pending {α : Type} {f : State → α → State} (each : ∀ (t : State) a, (f t a).pending = t.pending) (as : List α) :
    (as.foldl f s).pending = s.pending :=
  List.foldlRecOn (motive := fun t => t.pending = s.pending) as f rfl fun t ht a _ => (each t a).trans ht

theorem State.arrive_pending (l : Link) (k : Kind) (tag : Byte) (params : Params) :
    (s.arrive l params fun s => s.takeKind l k tag params.bytes).pending = s.pending := by
  refine (State.foldl_pending _ State.hearFrame_pending _).trans ?_
  exact (State.onGoodFrame_pending _ l fun t => t.takeKind_pending l k tag _).trans (s.foldl_pending State.hearFrame_pending _)

theorem State.hearClaims_pending (frames : List ClaimFrame) : (s.hearClaims frames).pending = s.pending := by
  refine (State.undisturbed_reportHoldings _ _ _).pending.trans (s.foldl_pending (fun t f => ?_) _)
  exact t.onGoodFrame_pending f.link fun u => (u.undisturbed_takeClaim (fun v new => v.undisturbed_moveHoldings new _) _ _ _).pending

theorem State.takeBody_pending (l : Link) (body : List Byte) : (s.takeBody l body).pending = s.pending := by
  refine s.onGoodFrame_pending l fun t => ?_
  split
  · unfold State.takeRequest
    split
    · exact (t.undisturbed_refuseUnreserved _ _ _ _ _).pending
    · exact t.takeKind_pending _ _ _ _
  · rfl
  · rfl

theorem State.discardFrame_pending (l : Link) : (s.discardFrame l).pending = s.pending := by
  unfold State.discardFrame
  split <;> rfl

theorem State.receiveByte_pending (l : Link) (b : Byte) : (s.receiveByte l b).pending = s.pending := by
  unfold State.receiveByte
  split
  · split <;> rfl
  · split
    · rfl
    · exact s.discardFrame_pending l
  · rfl
  · split
    · exact s.takeBody_pending l _
    · exact s.discardFrame_pending l

theorem State.receiveError_pending (l : Link) : (s.receiveError l).pending = s.pending := by
  unfold State.receiveError
  split
  · rfl
  · exact s.discardFrame_pending l

theorem State.sweepHoldings_pending (f : FrameCount) : (s.sweepHoldings f).pending = s.pending :=
  (State.undisturbed_reportHoldings _ _ _).pending.trans (s.undisturbed_moveHoldings _ _).pending

theorem State.boundary_pending (signals : PerInput InputSignal) (instant : Nat) :
    (s.boundary signals instant).pending = s.pending := by
  obtain ⟨-, -, -, pending, -⟩ := s.applied_blocks signals instant
  rw [s.boundary_eq signals instant]
  exact pending

/-- A pulse changes the reference unit, and may take a boundary (R136 to R139). -/
theorem State.pulse_pending (instant : Nat) (signals : PerInput InputSignal) : (s.pulse instant signals).pending = s.pending := by
  have moved (u : ReferenceUnit) : (s.updateReference u).pending = s.pending := (s.undisturbed_updateReference u).pending
  have waiting : (s.pulseWaiting instant signals).pending = s.pending := by
    unfold State.pulseWaiting
    dsimp only
    split_ifs
    · exact moved _
    · exact (State.boundary_pending _ signals instant).trans (moved _)
    · rfl
  have locked (due : Nat) : (s.pulseLocked due instant signals).pending = s.pending := by
    unfold State.pulseLocked
    dsimp only
    split_ifs
    · exact State.boundary_pending _ signals instant
    · rfl
  unfold State.pulse
  dsimp only
  split
  · exact moved _
  · split
    · split
      · exact moved _
      · exact moved _
      · exact waiting
      · exact locked _
    · split
      · exact moved _
      · exact moved _
      · exact moved _
      · rfl

variable {s} {t : State}

/-- No command faults or is refused: every arm answers a next state. -/
theorem exec_next (c : Instr) (s : State) : ∃ t, exec c s = .next t := by
  cases c <;> exact ⟨_, rfl⟩

theorem exec_request_pending {c : Instr} {r : Kind × Link × Byte × Params} (asked : requestOf c = some r)
    (e : exec c s = .next t) : t.pending = s.pending := by
  obtain ⟨k, l, tag, params⟩ := r
  rw [exec_requestOf s asked] at e
  exact Host.Outcome.next.inj e ▸ s.arrive_pending l k tag params

theorem exec_pending (c : Instr) (e : exec c s = .next t) : t.pending = s.pending := by
  cases c with
  | frameBoundary signals =>
    obtain rfl := Host.Outcome.next.inj e
    split
    · rfl
    · exact s.boundary_pending _ _
  | referencePulse instant signals =>
    obtain rfl := Host.Outcome.next.inj e
    split
    · rfl
    · exact s.pulse_pending _ _
  | sweep =>
    obtain rfl := Host.Outcome.next.inj e
    split
    · exact s.takeOwedSweep_pending
    · rfl
    · split
      · exact s.sweepHoldings_pending _
      · rfl
  | missingPulse =>
    obtain rfl := Host.Outcome.next.inj e
    split
    · rfl
    · split
      · rfl
      · exact (s.undisturbed_updateReference _).pending
  | signalLoss i first last =>
    obtain rfl := Host.Outcome.next.inj e
    split <;> rfl
  | claim l tag params =>
    obtain rfl := Host.Outcome.next.inj e
    split
    · exact s.onGoodFrame_pending l fun u => u.takeKind_pending l .claim tag _
    · exact s.hearClaims_pending _
  | undefinedKind l kind tag ps => exact Host.Outcome.next.inj e ▸ s.takeBody_pending l _
  | disabledLinkFrame l kind tag ps => exact Host.Outcome.next.inj e ▸ s.takeBody_pending l _
  | frameDiscarded l cause => exact Host.Outcome.next.inj e ▸ s.discardFrame_pending l
  | byteGapExpiry l => exact Host.Outcome.next.inj e ▸ s.receiveError_pending l
  | byteReceived l b stopValid =>
    obtain rfl := Host.Outcome.next.inj e
    split
    · split
      · exact s.receiveByte_pending l b
      · exact s.receiveError_pending l
    · rfl
  | coldResetReleased timerDue =>
    obtain rfl := Host.Outcome.next.inj e
    split <;> rfl
  | warmResetAsserted =>
    obtain rfl := Host.Outcome.next.inj e
    split <;> rfl
  | transmissionBegins | transmissionEnds | coldResetAsserted | warmResetReleased => exact Host.Outcome.next.inj e ▸ rfl
  | _ => exact exec_request_pending rfl e

/-- Settles O2. -/
theorem everyCommandCompletes : Obligations.EveryCommandCompletes := by
  intro c s
  obtain ⟨t, e⟩ := exec_next c s
  exact ⟨t, e, exec_pending c e⟩

end Sys2Proof.Machine
end

section
/-! The Action Queue applied from its head (R91, R92), and the tally after a boundary (R97, R98). -/

namespace Sys2Proof.Machine

variable (s : State) (signals : PerInput InputSignal)

/-! The queue. -/

theorem State.setQueue_ite (q : List Entry) {p : Prop} [Decidable p] (x y : State) :
    (if p then x else y).setQueue q = if p then x.setQueue q else y.setQueue q :=
  apply_ite (fun t : State => t.setQueue q) p x y

theorem State.changeFormat_setQueue (q : List Entry) (f : Format) :
    (s.setQueue q).changeFormat f signals = (s.changeFormat f signals).setQueue q := by
  rw [State.changeFormat_eq, State.changeFormat_eq, State.setQueue_reference]
  split
  · rfl
  · rw [State.postReport, State.postReport, State.postWhere_eq, State.postWhere_eq]
    rfl

/-- No application but that of a drained RELEASE reads or changes what waits behind its entry (R93). -/
theorem State.applyEntry_setQueue (q : List Entry) {e : Entry} (other : ∀ scope, e.action ≠ .release scope) :
    (s.setQueue q).applyEntry signals e = (s.applyEntry signals e).setQueue q := by
  rcases e with ⟨l, tag, a⟩
  cases a with
  | release scope => exact absurd rfl (other scope)
  | select => unfold State.applyEntry State.applySelect; dsimp only; rw [State.setQueue_ite]; rfl
  | nextSet => unfold State.applyEntry State.applyNextSet; dsimp only; rw [State.setQueue_ite]; rfl
  | transitionSetup => unfold State.applyEntry State.applyTransitionSetup; dsimp only; rw [State.setQueue_ite]; rfl
  | faderSetup => unfold State.applyEntry State.applyFaderSetup; dsimp only; rw [State.setQueue_ite]; rfl
  | keyOrder => unfold State.applyEntry State.applyKeyOrder; dsimp only; rw [State.setQueue_ite]; rfl
  | keyCut => unfold State.applyEntry State.applyKeyCut; dsimp only; rw [State.setQueue_ite]; rfl
  | recallEffects =>
    unfold State.applyEntry State.applyRecall
    dsimp only
    rw [State.setQueue_ite, State.setQueue_ite, State.setQueue_ite]
    rfl
  | setFormat f =>
    unfold State.applyEntry State.applySetFormat
    dsimp only
    rw [State.setQueue_ite, State.setQueue_ite, State.changeFormat_setQueue]
    rfl
  | auto => unfold State.applyEntry State.applyAuto; dsimp only [State.setQueue_bank]; split <;> rfl
  | matte | cut | keySelect | keySetup | keyMask | setOutputRange => rfl

/-- Rounds over a queue without a drained RELEASE apply its entries one after another. -/
theorem State.applyRounds_foldl : ∀ (es : List Entry) (s : State), (∀ e ∈ es, ∀ scope, e.action ≠ .release scope) →
    State.applyRounds signals es.length (s.setQueue es) = es.foldl (fun u e => u.applyEntry signals e) (s.setQueue [])
  | [], _, _ => rfl
  | e :: es, s, stay => by
    obtain ⟨front, behind⟩ := List.forall_mem_cons.1 stay
    have round : State.applyRounds signals (e :: es).length (s.setQueue (e :: es)) =
        State.applyRounds signals es.length ((s.setQueue es).applyEntry signals e) := rfl
    rw [round, State.applyEntry_setQueue s signals es front, State.applyRounds_foldl es (s.applyEntry signals e) behind,
      ← State.applyEntry_setQueue s signals [] front]
    rfl

/-- Settles O28: a round takes the front entry, and as many rounds as entries suffice whatever an entry takes out of the queue. -/
theorem queueAppliedInOrder : Obligations.QueueAppliedInOrder := by
  intro s sig
  refine ⟨s.applyQueue_queue sig, fun stay => s.applyRounds_foldl sig s.queue stay, fun e rest queue => ?_⟩
  have round : s.applyQueue sig = State.applyRounds sig rest.length ((s.setQueue rest).applyEntry sig e) := by
    simp only [State.applyQueue, queue, List.length_cons, State.applyRounds]
  rw [round]
  exact State.applyRounds_enough sig _ _ _ ((s.setQueue rest).kept_applyEntry sig e).shorter le_rfl

/-! The tally. -/

theorem Bank.keyerSelects_iff (b : Bank) (k : Keyer) (i : Input) : b.keyerSelects k i = true ↔
    b.fill.get k = .input i ∨ (b.source.get k = .input i ∧ (b.settings.get k).mode ≠ .selfKey) := by
  simp [Bank.keyerSelects]

theorem Bank.programTally_iff (b : Bank) (i : Input) : b.programTally i = true ↔
    b.a = .input i ∨ (b.state ≠ .idle ∧ b.nextSet.bkgd = true ∧ b.b = .input i) ∨
    ∃ k, (b.onAir.get k = true ∨ (b.nextSet.keys.get k = true ∧ b.state ≠ .idle)) ∧ b.keyerSelects k i = true := by
  simp [Bank.programTally, b.running_iff, Keyer.mem_all, or_assoc, and_assoc, and_comm (b := b.state ≠ .idle)]

theorem Bank.previewTally_iff (b : Bank) (i : Input) : b.previewTally i = true ↔
    (b.nextSet.bkgd = true ∧ b.b = .input i) ∨ (b.nextSet.bkgd = false ∧ b.a = .input i) ∨
    ∃ k, b.onAir.get k ≠ b.nextSet.keys.get k ∧ b.keyerSelects k i = true := by
  cases bkgd : b.nextSet.bkgd <;> simp [Bank.previewTally, Bank.onAirAfter, bkgd, Keyer.mem_all]

/-- Settles O35. -/
theorem tallyDerivation : Obligations.TallyDerivation := by
  intro s t sig phase e i b selects
  have warm : ¬ s.setup.phase.isColdReset = true := fun cold => phase ((Phase.isColdReset_iff _).1 cold)
  rw [exec_frameBoundary, if_neg warm] at e
  obtain rfl := Host.Outcome.next.inj e
  have derived := s.boundary_tally sig s.reference.nextBoundary
  simp only [State.programLine, State.previewLine, derived, Bank.tally, PerInput.get_ofFn, Bank.programTally_iff,
    Bank.previewTally_iff, Bank.keyerSelects_iff]
  exact ⟨Iff.rfl, Iff.rfl⟩

end Sys2Proof.Machine
end

section
/-! The checks of a queued request after its values, in their order (R88). -/

namespace Sys2Proof.Machine

variable {s : State} {l : Link} {tag : Byte} {a : Action}

/-- A queued request that a link can carry, coming alone, reaches its admission with a reply slot reserved. -/
theorem exec_sendable (sendable : a.Sendable) (serves : s.Serves l) :
    exec (a.kind.request l tag a.params) s = .next (((s.heard l).reserved l).admission l tag a) := by
  simp only [exec_request, State.takeKind_sendable _ _ _ sendable, State.onGoodFrame_serves serves]

/-- The barred check and the holder check, each of which decides alone. -/
theorem State.admission_entryRefusal {reason : Reason} (refusal : s.entryRefusal l a.group = some reason) :
    s.admission l tag a = s.refuse l tag a.kind.code reason a.group := by
  simp only [State.admission, refusal]

/-- An entry of no group, or of a group its link may use, passes both. -/
theorem State.entryRefusal_none (may : ∀ g, a.group = some g → s.MayUse l g) : s.entryRefusal l a.group = none := by
  cases hg : a.group with
  | none => rfl
  | some g => exact State.groupRefusal_none (may g hg)

/-- The check of the queue's room comes after them. -/
theorem State.admission_queueFull (passed : s.entryRefusal l a.group = none) (full : 16 ≤ s.queue.length) :
    s.admission l tag a = s.refuse l tag a.kind.code .queueFull a.group := by
  simp only [State.admission, passed]
  exact if_pos full

/-- The check of the lock comes last. -/
theorem State.admission_locked (passed : s.entryRefusal l a.group = none) (room : s.queue.length < 16)
    (lockable : a.lockable = true) (locked : s.setup.lock = true) :
    s.admission l tag a = s.refuse l tag a.kind.code .locked a.group := by
  simp only [State.admission, passed]
  rw [if_neg (Nat.not_le.2 room : ¬ Config.queueCapacity ≤ s.queue.length), if_pos (by rw [lockable, locked]; rfl)]

/-- Settles O40. -/
theorem arrivalRefusals : Obligations.ArrivalRefusals := by
  intro s l tag a sendable serves out
  let u := (s.heard l).reserved l
  have refused (reason : Reason) (decides : u.admission l tag a = u.refuse l tag a.kind.code reason a.group) : out reason := by
    show exec _ s = _
    rw [exec_sendable sendable serves, decides, State.refuse_reserved]
  have grouped (g : Group) (reason : Reason) (hg : a.group = some g) (refusal : u.groupRefusal l g = some reason) : out reason :=
    refused reason (State.admission_entryRefusal (by rw [hg]; exact refusal))
  refine ⟨fun g hg barred => grouped g .barred hg (State.groupRefusal_barred barred),
    fun g h hg free holder other => grouped g .notHolder hg (State.groupRefusal_holder free holder other), fun may => ?_⟩
  have passed : u.entryRefusal l a.group = none := State.entryRefusal_none may
  exact ⟨fun full => refused .queueFull (State.admission_queueFull passed full),
    fun room lockable locked => refused .locked (State.admission_locked passed room lockable locked)⟩

end Sys2Proof.Machine
end

section
/-! Immediate requests of a group: the checks and the carrying out (R90, R105, R157). -/

namespace Sys2Proof.Machine

variable {s : State} {l : Link} {tag : Byte} {k : Kind} {g : Group} {lockable : Bool}

/-! The checks of a request of a group. -/

theorem State.groupChecked_refused {reason : Reason} (refusal : s.groupRefusal l g = some reason) (run : State → State) :
    s.groupChecked k l tag g lockable run = s.refuse l tag k.code reason (some g) := by
  simp only [State.groupChecked, refusal]

theorem State.groupChecked_locked (may : s.MayUse l g) (locked : s.setup.lock = true) (run : State → State) :
    s.groupChecked k l tag g true run = s.refuse l tag k.code .locked (some g) := by
  simp only [State.groupChecked, State.groupRefusal_none may, locked, Bool.and_self, if_true]

theorem State.groupChecked_passed (may : s.MayUse l g) (unlocked : lockable = true → s.setup.lock = false) (run : State → State) :
    s.groupChecked k l tag g lockable run = run s := by
  have clear : (lockable && s.setup.lock) = false := by
    cases lockable with
    | false => rfl
    | true => exact unlocked rfl
  simp only [State.groupChecked, State.groupRefusal_none may, clear, Bool.false_eq_true, if_false]

/-- A mark set beside a reserved reply slot. -/
theorem State.touch_reserved (j : Link) : (s.reserved j).touch l g = (s.worked l g).reserved j :=
  (s.reserved j).touch_eq l g

/-- Work done with a reply slot reserved, its mark set and its request answered. -/
theorem State.answer_touch (t : State) {data : List Byte} :
    ((t.reserved l).touch l g).answer l tag k data = (t.worked l g).said l (.done tag k.code data) := by
  rw [State.touch_reserved, State.answer_reserved]

/-! Such a request as a command. -/

/-- The command is an immediate request of the group whose values have read: with a reply slot reserved it comes to its checks and,
past them, to its work. -/
def GroupChecks (c : Instr) (s : State) (k : Kind) (l : Link) (tag : Byte) (g : Group) (lockable : Bool) (work : State → State) : Prop :=
  exec c s = .next (((s.heard l).reserved l).groupChecked k l tag g lockable work)

/-- A served request whose parameters read comes to its checks. -/
theorem groupChecks_of_read {α : Type} {ps : List Byte} {read : List Byte → Option α} {valid : α → State → Bool}
    {run : α → State → State} {a : α}
    (taken : ∀ t : State, t.takeKind l k tag ps = t.immediate k l tag ps (some g) read valid fun a u =>
      u.groupChecked k l tag g lockable (run a))
    (serves : s.Serves l) (hl : ps.length + 2 = k.bodyLength) (hr : read ps = some a) (hv : valid a ((s.heard l).reserved l) = true) :
    GroupChecks (k.request l tag ps) s k l tag g lockable (run a) := by
  unfold GroupChecks
  simp only [exec_request, taken, State.onGoodFrame_immediate serves hl hr hv]

variable {c : Instr} {work : State → State}

theorem GroupChecks.refused (checks : GroupChecks c s k l tag g lockable work) {reason : Reason}
    (refusal : s.groupRefusal l g = some reason) : exec c s = .next ((s.heard l).refused l tag k.code reason (some g)) := by
  have found : ((s.heard l).reserved l).groupRefusal l g = some reason := refusal
  rw [checks, State.groupChecked_refused found, State.refuse_reserved]

theorem GroupChecks.barred (checks : GroupChecks c s k l tag g lockable work) (barred : s.barredFrom l g = true) :
    exec c s = .next ((s.heard l).refused l tag k.code .barred (some g)) :=
  checks.refused (State.groupRefusal_barred barred)

theorem GroupChecks.notHolder (checks : GroupChecks c s k l tag g lockable work) (free : s.barredFrom l g = false)
    (held : ∃ h, s.holder g = some h ∧ h ≠ l) : exec c s = .next ((s.heard l).refused l tag k.code .notHolder (some g)) := by
  obtain ⟨h, holder, other⟩ := held
  exact checks.refused (State.groupRefusal_holder free holder other)

theorem GroupChecks.locked (checks : GroupChecks c s k l tag g true work) (may : s.MayUse l g) (locked : s.setup.lock = true) :
    exec c s = .next ((s.heard l).refused l tag k.code .locked (some g)) := by
  have free : ((s.heard l).reserved l).MayUse l g := may
  have shut : ((s.heard l).reserved l).setup.lock = true := locked
  rw [checks, State.groupChecked_locked free shut, State.refuse_reserved]

theorem GroupChecks.passed (checks : GroupChecks c s k l tag g lockable work) (may : s.MayUse l g)
    (unlocked : lockable = true → s.setup.lock = false) : exec c s = .next (work ((s.heard l).reserved l)) := by
  have free : ((s.heard l).reserved l).MayUse l g := may
  have clear : lockable = true → ((s.heard l).reserved l).setup.lock = false := unlocked
  rw [checks, State.groupChecked_passed free clear]

end Sys2Proof.Machine
end

section
/-! STORE and ERASE (R125 to R127). -/

namespace Sys2Proof.Machine

variable {s : State} {l : Link}

theorem readRegisterParts_bytes (r : Register) {p : PartSet} (h : p.isEmpty = false) :
    readRegisterParts (Register.code r :: p.bytes) = some (r, p) := by
  simp only [PartSet.bytes, PerKeyer.toList, Keyer.all, PerKeyer.get, List.map, readRegisterParts, registerOf_code,
    partSetOf_bytes p h, Option.bind_eq_bind, Option.bind_some]

theorem readOne_registerOf_code (r : Register) : readOne registerOf [Register.code r] = some r := registerOf_code r

/-- The part set a register holds, as ERASE answers it (R127). -/
theorem Effects.parts_bytes (e : Effects) :
    e.parts.bytes = bit e.bkgd.isSome :: bit e.trans.isSome :: Keyer.all.map fun k => bit (e.keys.get k).isSome := rfl

theorem execStore_checks (serves : s.Serves l) (tag : Byte) (r : Register) {p : PartSet} (parts : p.isEmpty = false) :
    GroupChecks (.store l tag (Register.code r :: p.bytes)) s .store l tag .memory false fun u =>
      ((u.setRegister r (u.bank.capture p)).touch l .memory).answer l tag .store (Register.code r :: p.bytes) :=
  groupChecks_of_read (k := .store) (fun _ => rfl) serves rfl (readRegisterParts_bytes r parts) rfl

theorem execErase_checks (serves : s.Serves l) (tag : Byte) (r : Register) :
    GroupChecks (.erase l tag [Register.code r]) s .erase l tag .memory false fun u =>
      ((u.setRegister r emptyEffects).touch l .memory).answer l tag .erase
        (Register.code r :: (u.memory.registers.get r).parts.bytes) :=
  groupChecks_of_read (k := .erase) (fun _ => rfl) serves rfl (readOne_registerOf_code r) rfl

/-- Settles O44. -/
theorem effectsRegisters : Obligations.EffectsRegisters := by
  intro s l tag r serves
  have erase := execErase_checks serves tag r
  let captured (p : PartSet) : State := (s.heard l).setRegister r (s.bank.capture p)
  let erased : State := (s.heard l).setRegister r emptyEffects
  refine ⟨fun p parts => ?_, fun may => ?_, erase.barred, fun h free holder other => erase.notHolder free ⟨h, holder, other⟩⟩
  · have store := execStore_checks serves tag r parts
    refine ⟨fun may => ?_, store.barred, fun h free holder other => store.notHolder free ⟨h, holder, other⟩⟩
    exact (store.passed may nofun).trans (congrArg Host.Outcome.next (State.answer_touch (captured p)))
  · exact (erase.passed may nofun).trans (congrArg Host.Outcome.next (State.answer_touch erased))

end Sys2Proof.Machine
end

section
/-! RELEASE, at its arrival or drained (R93, R110, R111). -/

namespace Sys2Proof.Machine

variable (s : State) (l : Link) (tag : Byte)

theorem Holding.acquiredBy_eq (h : Holding) : h.acquiredBy l = (h == .acquired l true || h == .acquired l false) := by
  cases h with
  | free => rfl
  | static j => rfl
  | acquired j m => cases m <;> simp [Holding.acquiredBy, BEq.beq]

theorem groupSetBytes_eq (set : PerGroup Bool) : groupSetBytes set = Group.all.map fun g => bit (set.get g) := by
  simp only [groupSetBytes, PerGroup.toList, List.map_map]
  rfl

theorem noGroup_iff (set : PerGroup Bool) : noGroup set = true ↔ ∀ g, set.get g = false := by
  simp only [noGroup, List.all_eq_true, Group.mem_all, true_implies, Bool.not_eq_true']

/-- A RELEASE whose link holds nothing of its scope as ACQUIRED is refused, and any other frees what it holds of it
(R110, R111). -/
theorem State.carryOutRelease_eq {scope : ReleaseScope} {frees : Group → Bool} (actual : (s.actualSet l scope).get = frees) :
    ((∀ g, frees g = false) → s.carryOutRelease l tag scope = s.refuse l tag 0x21 .notHeld none) ∧
    ((∃ g, frees g = true) → s.carryOutRelease l tag scope =
      (s.changeHoldings (.ofFn fun g => if frees g then .free else s.arbiter.holdings.get g)).answer l tag .release
        (Group.all.map fun g => bit (frees g))) := by
  subst actual
  refine ⟨fun empty => if_pos ((noGroup_iff _).2 empty), fun ⟨g, hg⟩ => ?_⟩
  have nonempty : ¬ noGroup (s.actualSet l scope) = true := fun empty => nomatch ((noGroup_iff _).1 empty g).symm.trans hg
  rw [← groupSetBytes_eq]
  exact if_neg nonempty

variable {s l}

/-- An undrained RELEASE is carried out at its arrival (R111). -/
theorem execRelease_undrained (serves : s.Serves l) {ps : List Byte} {scope : ReleaseScope}
    (hl : ps.length + 2 = Kind.release.bodyLength) (read : readRelease ps = some (scope, false)) :
    exec (.release l tag ⟨ps, []⟩) s = .next (((s.heard l).reserved l).carryOutRelease l tag scope) := by
  have taken := exec_groupless (k := .release) (tag := tag) (fun _ => rfl) serves hl read
  exact taken

/-- The parameters of an undrained RELEASE; the group code counts for the scope GROUP alone (R110). -/
theorem readRelease_undrained (b : Byte) :
    (∀ g, readRelease [0, Group.code g, 0] = some (.group g, false)) ∧ readRelease [1, b, 0] = some (.keyers, false) ∧
      readRelease [2, b, 0] = some (.all, false) := by
  refine ⟨fun g => ?_, ?_, ?_⟩ <;> simp [readRelease, flagOf]

/-- Settles O48. -/
theorem releases : Obligations.Releases := by
  intro s l tag scope named frees table data asks
  have names_eq (g : Group) : scope.names g = named g := by
    cases scope with
    | group x => rfl
    | keyers => simp only [named, ReleaseScope.names, Bool.decide_or, beq_eq_decide, Bool.or_assoc]
    | all => rfl
  have set_eq : (s.actualSet l scope).get = frees := funext fun g => by
    simp only [State.actualSet, PerGroup.get_ofFn, Holding.acquiredBy_eq, names_eq]
    rfl
  have drained := s.carryOutRelease_eq l tag set_eq
  have undrained := ((s.heard l).reserved l).carryOutRelease_eq l tag (frees := frees) set_eq
  refine ⟨fun serves ps asked => ?arrival, fun sig => drained⟩
  have carried : exec (.release l tag ⟨ps, []⟩) s = .next (((s.heard l).reserved l).carryOutRelease l tag scope) := by
    cases scope with
    | group x =>
      obtain rfl := asked
      exact execRelease_undrained tag serves rfl ((readRelease_undrained 0).1 x)
    | keyers =>
      obtain ⟨b, rfl⟩ := asked
      exact execRelease_undrained tag serves rfl (readRelease_undrained b).2.1
    | all =>
      obtain ⟨b, rfl⟩ := asked
      exact execRelease_undrained tag serves rfl (readRelease_undrained b).2.2
  refine ⟨fun none => ?_, fun some => carried.trans (congrArg Host.Outcome.next (undrained.2 some))⟩
  rw [carried, undrained.1 none, State.refuse_reserved]

end Sys2Proof.Machine
end

section
/-! ASSIGN STATIC and UNASSIGN STATIC (R113, R114). -/

namespace Sys2Proof.Machine

variable {s : State} {l : Link}

/-- A served request whose parameters read and whose values the state refuses. -/
theorem exec_request_invalid {α : Type} {k : Kind} {tag : Byte} {ps : List Byte} {g : Option Group} {read : List Byte → Option α}
    {valid : α → State → Bool} {run : α → State → State} {a : α}
    (taken : ∀ t : State, t.takeKind l k tag ps = t.immediate k l tag ps g read valid run)
    (serves : s.Serves l) (hl : ps.length + 2 = k.bodyLength) (hr : read ps = some a)
    (hv : valid a ((s.heard l).reserved l) = false) :
    exec (k.request l tag ps) s = .next ((s.heard l).refused l tag k.code .badValue g) := by
  have invalid (b : α) (hb : read ps = some b) : valid b ((s.heard l).reserved l) = false := by
    rwa [Option.some.inj (hb.symm.trans hr)]
  simp only [exec_request, taken, State.onGoodFrame_badValue serves hl invalid]

theorem readAssignStatic_codes (g : Group) (h : Link) : readAssignStatic [Group.code g, Link.code h] = some (g, h) := by
  simp [readAssignStatic]

theorem readOne_groupOf_code (g : Group) : readOne groupOf [Group.code g] = some g := groupOf_code g

theorem execAssignStatic_checks (serves : s.Serves l) (tag : Byte) {g : Group} {h : Link} (free : s.barredFrom h g = false) :
    GroupChecks (.assignStatic l tag [Group.code g, Link.code h]) s .assignStatic l tag .setup true fun u =>
      ((u.changeHoldings (u.arbiter.holdings.set g (.static h))).touch l .setup).answer l tag .assignStatic
        [Group.code g, Link.code h] := by
  have valid : assignable (g, h) ((s.heard l).reserved l) = true := congrArg not free
  have checks := groupChecks_of_read (k := .assignStatic) (tag := tag) (fun _ => rfl) serves rfl (readAssignStatic_codes g h) valid
  exact checks

/-- A group barred from the link named is refused as a value (R113). -/
theorem execAssignStatic_barred (serves : s.Serves l) (tag : Byte) {g : Group} {h : Link} (barred : s.barredFrom h g = true) :
    exec (.assignStatic l tag [Group.code g, Link.code h]) s = .next ((s.heard l).refused l tag 0x35 .badValue (some .setup)) := by
  have invalid : assignable (g, h) ((s.heard l).reserved l) = false := congrArg not barred
  exact exec_request_invalid (k := .assignStatic) (fun _ => rfl) serves rfl (readAssignStatic_codes g h) invalid

theorem execUnassignStatic_checks (serves : s.Serves l) (tag : Byte) (g : Group) :
    GroupChecks (.unassignStatic l tag [Group.code g]) s .unassignStatic l tag .setup true fun u => u.carryOutUnassign l tag g :=
  groupChecks_of_read (k := .unassignStatic) (fun _ => rfl) serves rfl (readOne_groupOf_code g) rfl

theorem State.carryOutUnassign_static {tag : Byte} {g : Group} {h : Link} (static : s.arbiter.holdings.get g = .static h) :
    s.carryOutUnassign l tag g = ((s.changeHoldings (s.arbiter.holdings.set g .free)).touch l .setup).answer l tag .unassignStatic
      [Group.code g, Link.code h] := by
  simp only [State.carryOutUnassign, static]

theorem State.carryOutUnassign_other {tag : Byte} {g : Group} (other : ∀ h, s.arbiter.holdings.get g ≠ .static h) :
    s.carryOutUnassign l tag g = s.refuse l tag 0x36 .notStatic (some .setup) := by
  unfold State.carryOutUnassign
  cases hg : s.arbiter.holdings.get g with
  | static h => exact absurd hg (other h)
  | free => rfl
  | acquired h m => rfl

/-- Settles O49. -/
theorem staticAssignments : Obligations.StaticAssignments := by
  intro s l tag g serves
  have unassign := execUnassignStatic_checks serves tag g
  refine ⟨fun h barred => execAssignStatic_barred serves tag barred, fun h free => ?assign, unassign.barred, unassign.notHolder,
    unassign.locked, fun may unlocked => ?unassign⟩
  case assign =>
    have assign := execAssignStatic_checks serves tag free
    refine ⟨assign.barred, assign.notHolder, assign.locked, fun may unlocked => ?_⟩
    exact assign.passed may fun _ => unlocked
  case unassign =>
    have passed := unassign.passed may fun _ => unlocked
    refine ⟨fun h static => ?_, fun other => ?_⟩
    · have held : ((s.heard l).reserved l).arbiter.holdings.get g = .static h := static
      rw [State.carryOutUnassign_static held] at passed
      exact passed
    · have held : ∀ h, ((s.heard l).reserved l).arbiter.holdings.get g ≠ .static h := other
      rw [State.carryOutUnassign_other held, State.refuse_reserved] at passed
      exact passed

end Sys2Proof.Machine
end

section
/-! The immediate requests of SETUP that change no holding (R115, R140, R141, R157, R160). -/

namespace Sys2Proof.Machine

variable {s : State} {l : Link}

/-! What they read. -/

theorem readOne_policyOf_code (p : RephasePolicy) : readOne policyOf [p.code] = some p := policyOf_code p

/-- R115: the period is clamped, and 0 stays 0. -/
theorem readSetAging_bytes (period : Word16) :
    readSetAging period.bytes = some (if period = 0 then 0 else max 25 (min period.toNat 16383)) := by
  have zero : period.toNat = 0 ↔ period = 0 := BitVec.toNat_inj (y := 0)
  simp only [Word16.bytes, readSetAging, number_bytes, clampSweepPeriod, zero, clampNat_eq _ 25 16383 (by decide)]

theorem readClearLog_byteOf {n : Nat} (low : 1 ≤ n) (high : n ≤ 8) : readClearLog [byteOf n] = some (some n) := by
  have known := recordOf_byteOf low high
  have nonzero : byteOf n ≠ 0 := fun zero => by
    have unknown : recordOf 0 = none := rfl
    rw [zero, unknown] at known
    exact nomatch known
  simp only [readClearLog, if_neg nonzero, known, Option.map_some]

/-- A record number, or 0 for all records, reads. -/
theorem readClearLog_isSome {b : Byte} (h : b.toNat ≤ 8) : ∃ n, readClearLog [b] = some n := by
  by_cases zero : b = 0
  · exact ⟨none, if_pos zero⟩
  · have low : 1 ≤ b.toNat := Nat.one_le_iff_ne_zero.2 fun e => zero (BitVec.eq_of_toNat_eq e)
    refine ⟨some b.toNat, ?_⟩
    have known : recordOf b = some b.toNat := if_pos ⟨low, h⟩
    simp only [readClearLog, if_neg zero, known, Option.map_some]

/-! Their checks. -/

variable (tag : Byte)

theorem execSetRephase_checks (serves : s.Serves l) (p : RephasePolicy) :
    GroupChecks (.setRephase l tag [p.code]) s .setRephase l tag .setup true fun u =>
      ((u.setReference { u.reference with policy := p }).touch l .setup).answer l tag .setRephase [p.code] :=
  groupChecks_of_read (k := .setRephase) (fun _ => rfl) serves rfl (readOne_policyOf_code p) rfl

theorem execSetAging_checks (serves : s.Serves l) {ps : List Byte} {t : Nat} (hl : ps.length = 2) (read : readSetAging ps = some t) :
    GroupChecks (.setAging l tag ps) s .setAging l tag .setup true fun u =>
      ((u.setArbiter (u.arbiter.setPeriod t)).touch l .setup).answer l tag .setAging (twoBytes t) :=
  groupChecks_of_read (k := .setAging) (fun _ => rfl) serves (congrArg (· + 2) hl) read rfl

theorem execClearReferenceFlag_checks (serves : s.Serves l) :
    GroupChecks (.clearReferenceFlag l tag []) s .clearReferenceFlag l tag .setup false fun u =>
      ((u.updateReference { u.reference with eventFlag := false }).touch l .setup).answer l tag .clearReferenceFlag
        [bit u.reference.eventFlag] :=
  groupChecks_of_read (k := .clearReferenceFlag) (fun _ => rfl) serves rfl (rfl : readNothing [] = some ()) rfl

theorem execLockSetup_checks (serves : s.Serves l) :
    GroupChecks (.lockSetup l tag []) s .lockSetup l tag .setup false fun u =>
      (u.setLock.touch l .setup).answer l tag .lockSetup [bit u.setup.lock] :=
  groupChecks_of_read (k := .lockSetup) (fun _ => rfl) serves rfl (rfl : readNothing [] = some ()) rfl

theorem execClearLog_checks (serves : s.Serves l) {b : Byte} {n : Option Nat} (read : readClearLog [b] = some n) :
    GroupChecks (.clearLog l tag [b]) s .clearLog l tag .setup false fun u =>
      ((u.setLog (u.log.clear n)).touch l .setup).answer l tag .clearLog [byteOf (n.getD 0)] :=
  groupChecks_of_read (k := .clearLog) (fun _ => rfl) serves rfl read rfl

/-! The work of those that report. -/

/-- The state with the event flag cleared, and a STATUS report of it where it was set (R140). -/
def State.flagCleared (s : State) : State :=
  let cleared : State := { s with reference := { s.reference with eventFlag := false } }
  if s.reference.eventFlag then cleared.postReport cleared.statusMessage else cleared

theorem State.clearFlag_reserved :
    (s.reserved l).updateReference { s.reference with eventFlag := false } = s.flagCleared.reserved l := by
  unfold State.updateReference State.flagCleared
  cases flag : s.reference.eventFlag with
  | false => exact if_pos ⟨rfl, flag.symm⟩
  | true =>
    have differs : ¬ (s.reference.state = (s.reserved l).reference.state ∧ false = (s.reserved l).reference.eventFlag) :=
      fun ⟨_, same⟩ => nomatch same.trans flag
    refine (if_neg differs).trans ?_
    exact State.postReport_reserved (l := l) { s with reference := { s.reference with eventFlag := false } } _

/-- The state with the lock set, and a STATUS report of it where it was clear (R157). -/
def State.lockSet (s : State) : State :=
  let locked : State := { s with setup := { s.setup with lock := true } }
  if s.setup.lock then s else locked.postReport locked.statusMessage

theorem State.setLock_reserved : (s.reserved l).setLock = s.lockSet.reserved l := by
  unfold State.setLock State.lockSet
  cases lock : s.setup.lock with
  | false =>
    have clear : ¬ (s.reserved l).setup.lock = true := Bool.eq_false_iff.1 lock
    exact (if_neg clear).trans (State.postReport_reserved (l := l) { s with setup := { s.setup with lock := true } } _)
  | true => exact if_pos lock

/-! The refusals. -/

/-- A request of one of these kinds whose parameters read comes to the checks of SETUP; those of SET REPHASE and SET AGING end with
the lock. -/
theorem setupRequest_checks (serves : s.Serves l) {k : Kind} {ps : List Byte}
    (asks : (k = .setRephase ∧ (ps = [0] ∨ ps = [1])) ∨ (k = .setAging ∧ ps.length = 2) ∨ (k = .clearReferenceFlag ∧ ps = []) ∨
      (k = .lockSetup ∧ ps = []) ∨ (k = .clearLog ∧ ∃ b : Byte, ps = [b] ∧ b.toNat ≤ 8)) :
    ∃ work, GroupChecks (k.request l tag ps) s k l tag .setup (k == .setRephase || k == .setAging) work := by
  rcases asks with ⟨rfl, rfl | rfl⟩ | ⟨rfl, two⟩ | ⟨rfl, rfl⟩ | ⟨rfl, rfl⟩ | ⟨rfl, b, rfl, high⟩
  · exact ⟨_, execSetRephase_checks tag serves .immediate⟩
  · exact ⟨_, execSetRephase_checks tag serves .atIdle⟩
  · obtain ⟨t1, t0, rfl⟩ := List.length_eq_two.1 two
    exact ⟨_, execSetAging_checks tag serves rfl rfl⟩
  · exact ⟨_, execClearReferenceFlag_checks tag serves⟩
  · exact ⟨_, execLockSetup_checks tag serves⟩
  · obtain ⟨n, read⟩ := readClearLog_isSome high
    exact ⟨_, execClearLog_checks tag serves read⟩

/-- Settles O54. -/
theorem setupRequests : Obligations.SetupRequests := by
  intro s l tag serves
  refine ⟨fun may => ⟨fun unlocked => ⟨fun p => ?rephase, fun period => ?aging⟩, ?flag, ?lock, ?all, fun n low high => ?record⟩,
    fun k ps asks => ?refusals⟩
  case rephase =>
    refine ((execSetRephase_checks tag serves p).passed may fun _ => unlocked).trans (congrArg Host.Outcome.next ?_)
    exact State.answer_touch ((s.heard l).setReference { s.reference with policy := p })
  case aging =>
    refine ((execSetAging_checks tag serves rfl (readSetAging_bytes period)).passed may fun _ => unlocked).trans
      (congrArg Host.Outcome.next ?_)
    exact State.answer_touch ((s.heard l).setArbiter (s.arbiter.setPeriod _))
  case flag =>
    refine ((execClearReferenceFlag_checks tag serves).passed may nofun).trans (congrArg Host.Outcome.next ?_)
    exact (congrArg (fun t => (t.touch l .setup).answer l tag .clearReferenceFlag [bit s.reference.eventFlag])
      State.clearFlag_reserved).trans (State.answer_touch (s.heard l).flagCleared)
  case lock =>
    refine ((execLockSetup_checks tag serves).passed may nofun).trans (congrArg Host.Outcome.next ?_)
    exact (congrArg (fun t => (t.touch l .setup).answer l tag .lockSetup [bit s.setup.lock])
      State.setLock_reserved).trans (State.answer_touch (s.heard l).lockSet)
  case all =>
    refine ((execClearLog_checks tag serves (rfl : readClearLog [0] = some none)).passed may nofun).trans
      (congrArg Host.Outcome.next ?_)
    exact State.answer_touch ((s.heard l).setLog emptyLog)
  case record =>
    refine ((execClearLog_checks tag serves (readClearLog_byteOf low high)).passed may nofun).trans (congrArg Host.Outcome.next ?_)
    exact State.answer_touch ((s.heard l).setLog (s.log.clear (some n)))
  case refusals =>
    obtain ⟨work, checks⟩ := setupRequest_checks tag serves asks
    refine ⟨checks.barred, checks.notHolder, fun may locked lockable => ?_⟩
    rcases lockable with rfl | rfl
    · exact GroupChecks.locked checks may locked
    · exact GroupChecks.locked checks may locked

end Sys2Proof.Machine
end

section
/-! The first boundary after a reset ends initialisation (R102, R162, R163). -/

namespace Sys2Proof.Machine

variable {s : State}

/-- Reports posted one after another while running (R153). -/
theorem State.postReports_links (running : s.setup.phase = .running) (l : Link) (ms : List Message) :
    (ms.foldl State.postReport s).links.get l = if s.takesReports l then
      { s.links.get l with transmit := ms.foldl (fun q m => putReport m q) (s.links.get l).transmit } else s.links.get l := by
  induction ms generalizing s with
  | nil => exact (ite_self _).symm
  | cons m ms ih =>
    have apart : s.postReport m = s.setLinks (s.postReport m).links := by
      simp only [State.postReport, State.postWhere_eq]
      rfl
    have setup : (s.postReport m).setup = s.setup := by rw [apart]; rfl
    have takes : (s.postReport m).takesReports l = s.takesReports l := by rw [apart]; rfl
    have port : (s.postReport m).links.get l = if s.takesReports l = true ∧ true = true then (s.links.get l).report m
      else s.links.get l := State.postWhere_links running _ m l
    rw [List.foldl_cons, ih (by rw [setup, running]), takes, port]
    by_cases h : s.takesReports l = true <;> simp [h, LinkPort.report]

/-- The four reports of the end of initialisation, in their order (R163). -/
def State.initialReports (s : State) : List Message :=
  [s.statusMessage, s.holdingsMessage s.reference.frameCount, s.bankMessage, s.tallyMessage]

/-- Four reports of different slots stand in the order in which they are posted (R153). -/
theorem State.initialReports_posted : s.initialReports.foldl (fun q m => putReport m q) [] = s.initialReports := rfl

/-- The end of initialisation at a link in its state after a reset: its reports tell the state they leave (R156, R163). -/
theorem State.endInitialisation_links {l : Link} (fresh : s.links.get l = freshPort) :
    s.endInitialisation.links.get l =
      { freshPort with transmit := if s.takesReports l then s.endInitialisation.initialReports else [] } := by
  let up : State := { s with setup := { s.setup with phase := .running } }
  have whole : s.endInitialisation = up.initialReports.foldl State.postReport up := by
    simp only [State.endInitialisation, State.initialReports, State.postReport, State.postWhere_eq, List.foldl_cons, List.foldl_nil]
    rfl
  have told : s.endInitialisation.initialReports = up.initialReports := by
    simp only [State.endInitialisation, State.postReport, State.postWhere_eq]
    rfl
  have port : up.links.get l = freshPort := fresh
  have takes : up.takesReports l = s.takesReports l := rfl
  rw [told, whole, State.postReports_links (s := up) rfl, port, takes]
  split
  · rfl
  · rfl

theorem State.closeBoundary_initialising {c : Bool} (phase : s.setup.phase = .initialising c) (before : PerInput InputStatus) :
    s.closeBoundary before = (s.setCompositor { s.compositor with blackout := false }).endInitialisation := by
  simp only [State.closeBoundary, phase]

/-- The state at a boundary before its end (R91). -/
def State.beforeClose (s : State) (signals : PerInput InputSignal) (instant : Nat) : State :=
  ((s.takeOwedSweep.openBoundary signals instant).processBank signals).reportBank s.takeOwedSweep.tally

theorem State.RestartLaw.beforeClose (h : s.RestartLaw) (signals : PerInput InputSignal) (instant : Nat) :
    (s.beforeClose signals instant).RestartLaw := by
  have opened : (s.takeOwedSweep.openBoundary signals instant).RestartLaw := by
    refine h.takeOwedSweep.of_blocks rfl rfl rfl rfl ?_
    show s.takeOwedSweep.arbiter.countBoundary.holdings = _
    unfold Arbiter.countBoundary
    split_ifs <;> rfl
  have processed : ((s.takeOwedSweep.openBoundary signals instant).processBank signals).RestartLaw :=
    (opened.applyQueue signals).of_blocks rfl rfl rfl rfl rfl
  exact processed.reportBank _

theorem State.beforeClose_setup (signals : PerInput InputSignal) (instant : Nat) :
    (s.beforeClose signals instant).setup = s.setup := by
  obtain ⟨-, -, setup, -⟩ := s.applied_blocks signals instant
  rw [State.beforeClose, State.reportBank_eq]
  exact setup

theorem State.beforeClose_takesReports (signals : PerInput InputSignal) (instant : Nat) (l : Link) :
    (s.beforeClose signals instant).takesReports l = s.takesReports l := by
  obtain ⟨attributes, -⟩ := s.applied_arbiter signals instant
  have same : (s.beforeClose signals instant).arbiter.attributes = s.arbiter.attributes := by
    rw [State.beforeClose, State.reportBank_eq]
    exact attributes
  exact congrArg (fun a : PerLink LinkAttributes => (a.get l).enabled && (a.get l).reports) same

/-- Settles O56. -/
theorem initialisationEnds : Obligations.InitialisationEnds := by
  intro s c sig law phase
  have warm : ¬ s.setup.phase.isColdReset = true := by rw [phase]; nofun
  refine ⟨(exec_frameBoundary s sig).trans (congrArg Host.Outcome.next (if_neg warm)), fun instant => ?_⟩
  intro t
  let u := s.beforeClose sig instant
  have uphase : u.setup.phase = .initialising c := (congrArg SetupUnit.phase (State.beforeClose_setup sig instant)).trans phase
  have ended : t = (u.setCompositor { u.compositor with blackout := false }).endInitialisation :=
    State.closeBoundary_initialising uphase _
  refine ⟨?_, fun l => ?_⟩
  · obtain ⟨-, -, setup, -⟩ := s.applied_blocks sig instant
    have whole : t = _ := s.boundary_eq sig instant
    rw [whole, setup, phase]
    rfl
  · have resting : u.setup.phase ≠ .running := by rw [uphase]; nofun
    have fresh : u.links.get l = freshPort := (law.beforeClose sig instant).links resting l
    have takes : u.takesReports l = s.takesReports l := State.beforeClose_takesReports sig instant l
    have derived : t.tally = t.bank.tally := s.boundary_tally sig instant
    have links : t.links.get l = { freshPort with transmit := if u.takesReports l then t.initialReports else [] } := by
      rw [ended]
      exact State.endInitialisation_links fresh
    rw [links, takes, ← derived]
    rfl

end Sys2Proof.Machine
end

section
/-! The four steps of SET LINK at the target, and their composition (R119). -/

namespace Sys2Proof.Machine

/-! What a change of a link's attributes takes from the link. -/

/-- The attributes a link is given, the groups it loses, the entries of it that leave the queue, in the order in which they are
answered, and whether its report slots are emptied (R119). -/
@[ext] structure LinkChange where
  attributes : LinkAttributes
  frees : Group → Bool
  leaves : Entry → Bool
  gone : List Entry
  ends : Bool

/-- One change after another. -/
def LinkChange.andThen (c d : LinkChange) : LinkChange :=
  { attributes := d.attributes
    frees := fun g => c.frees g || d.frees g
    leaves := fun e => c.leaves e || d.leaves e
    gone := c.gone ++ d.gone
    ends := c.ends || d.ends }

/-- The port of a link whose entries have been answered WITHDRAWN. -/
def LinkPort.answered (p : LinkPort) (gone : List Entry) : LinkPort :=
  { p with
    reserved := p.reserved - gone.length
    transmit := p.transmit ++ gone.map fun e => .refused e.tag e.action.kind.code .withdrawn }

/-- The port of the link after its change (R94, R119, R153). -/
def LinkChange.port (c : LinkChange) (p : LinkPort) : LinkPort :=
  if c.ends then (p.answered c.gone).dropReports else p.answered c.gone

/-- The holdings table once groups are free. -/
def tableWithout (table : PerGroup Holding) (frees : Group → Bool) : PerGroup Holding :=
  .ofFn fun g => if frees g then .free else table.get g

/-- The bank whose fader is forgotten where the holder of TRANS changed (R106). -/
def Bank.forgetWhere (b : Bank) (lost : Bool) : Bank := if lost then { b with fader := b.fader.forget } else b

/-- A link undergoes a change from one state to another: that, and nothing else. -/
structure State.Undergoes (s : State) (j : Link) (c : LinkChange) (t : State) : Prop where
  state : t = { s with
    bank := s.bank.forgetWhere (c.frees .trans)
    arbiter := { s.arbiter with
      attributes := s.arbiter.attributes.set j c.attributes
      holdings := tableWithout s.arbiter.holdings c.frees }
    queue := s.queue.filter fun e => !c.leaves e
    links := t.links
    log := withdrawnLog s.log s.reference.frameCount c.gone }
  port : t.links.get j = c.port (s.links.get j)
  others : ∀ i, i ≠ j → t.links.get i = s.links.get i

/-! Composition. -/

theorem tableWithout_get (table : PerGroup Holding) (frees : Group → Bool) (g : Group) :
    (tableWithout table frees).get g = if frees g then .free else table.get g := PerGroup.get_ofFn _ g

theorem tableWithout_tableWithout (table : PerGroup Holding) (f₁ f₂ : Group → Bool) :
    tableWithout (tableWithout table f₁) f₂ = tableWithout table fun g => f₁ g || f₂ g := by
  refine PerGroup.ext_get fun g => ?_
  simp only [tableWithout_get]
  cases f₁ g <;> cases f₂ g <;> rfl

theorem tableWithout_none (table : PerGroup Holding) : (tableWithout table fun _ => false) = table :=
  PerGroup.ext_get fun g => tableWithout_get table _ g

theorem Bank.forgetWhere_forgetWhere (b : Bank) (x y : Bool) : (b.forgetWhere x).forgetWhere y = b.forgetWhere (x || y) := by
  cases x <;> cases y <;> rfl

theorem LinkPort.answered_answered (p : LinkPort) (a b : List Entry) : (p.answered a).answered b = p.answered (a ++ b) := by
  simp only [LinkPort.answered, Nat.sub_sub, List.length_append, List.append_assoc, List.map_append]

/-- Answers are no reports, so it is all one when the report slots are emptied. -/
theorem LinkPort.answered_dropReports (p : LinkPort) (a : List Entry) : (p.answered a).dropReports = p.dropReports.answered a := by
  have replies : (a.map fun e => Message.refused e.tag e.action.kind.code .withdrawn).filter Message.isReply =
      a.map fun e => Message.refused e.tag e.action.kind.code .withdrawn :=
    List.filter_eq_self.2 fun m hm => by
      obtain ⟨e, -, rfl⟩ := List.mem_map.1 hm
      rfl
  simp only [LinkPort.answered, LinkPort.dropReports, List.filter_append, replies]

theorem LinkPort.dropReports_dropReports (p : LinkPort) : p.dropReports.dropReports = p.dropReports := by
  simp only [LinkPort.dropReports, List.filter_filter, Bool.and_self]

theorem LinkChange.port_andThen (c d : LinkChange) (p : LinkPort) : d.port (c.port p) = (c.andThen d).port p := by
  unfold LinkChange.port LinkChange.andThen
  cases c.ends <;> cases d.ends <;>
    simp [LinkPort.answered_answered, LinkPort.answered_dropReports, LinkPort.dropReports_dropReports]

theorem withdrawnLog_append (log : RefusalLog) (f : FrameCount) (a b : List Entry) :
    withdrawnLog (withdrawnLog log f a) f b = withdrawnLog log f (a ++ b) := (List.foldl_append ..).symm

theorem State.Undergoes.trans {s t u : State} {j : Link} {c d : LinkChange} (h : s.Undergoes j c t) (k : t.Undergoes j d u) :
    s.Undergoes j (c.andThen d) u where
  state := by
    rw [k.state, h.state]
    simp only [PerLink.set_set, tableWithout_tableWithout, Bank.forgetWhere_forgetWhere, List.filter_filter, withdrawnLog_append,
      LinkChange.andThen, Bool.not_or, Bool.and_comm]
  port := by rw [k.port, h.port, LinkChange.port_andThen]
  others := fun i hi => (k.others i hi).trans (h.others i hi)

end Sys2Proof.Machine
end

section
/-! What each step of SET LINK does to its target (R119). -/

namespace Sys2Proof.Machine

variable {s t : State} {j : Link}

/-- New attributes alone. -/
def LinkChange.quiet (a : LinkAttributes) : LinkChange :=
  { attributes := a, frees := fun _ => false, leaves := fun _ => false, gone := [], ends := false }

theorem State.undergoes_setAttributes (s : State) (j : Link) (a : LinkAttributes) : s.Undergoes j (.quiet a) (s.setAttributes j a) where
  state := by
    simp only [LinkChange.quiet, tableWithout_none, Bool.not_false, List.filter_true]
    rfl
  port := by
    simp only [LinkChange.quiet, LinkChange.port, LinkPort.answered, List.map_nil, List.append_nil, Bool.false_eq_true, if_false]
    rfl
  others := fun _ _ => rfl

/-- The report slots of the link emptied at the end of its change. -/
theorem State.Undergoes.dropReports {c : LinkChange} (h : s.Undergoes j c t) :
    s.Undergoes j { c with ends := true } (t.modifyLink j LinkPort.dropReports) where
  state := by
    have apart : t.modifyLink j LinkPort.dropReports = { t with links := (t.modifyLink j LinkPort.dropReports).links } := rfl
    rw [apart, h.state]
  port := by
    simp only [State.modifyLink, State.setLinks_links, PerLink.get_modify_self, h.port, LinkChange.port, if_true]
    split
    · exact LinkPort.dropReports_dropReports _
    · rfl
  others := fun i other => by
    simp only [State.modifyLink, State.setLinks_links, PerLink.get_modify, if_neg other]
    exact h.others i other

/-! Losses. -/

theorem LinkPort.withdrawn_own (p : LinkPort) {es : List Entry} (mine : ∀ e ∈ es, e.link = j) : p.withdrawn j es = p.answered es := by
  have all : es.filter (fun e => e.link == j) = es := List.filter_eq_self.2 fun e he => beq_iff_eq.2 (mine e he)
  simp only [LinkPort.withdrawn, all, LinkPort.answered]

theorem LinkPort.withdrawn_other (p : LinkPort) {i : Link} {es : List Entry} (mine : ∀ e ∈ es, e.link = j) (other : i ≠ j) :
    p.withdrawn i es = p := by
  have none : es.filter (fun e => e.link == i) = [] :=
    List.filter_eq_nil_iff.2 fun e he same => other ((eq_of_beq same).symm.trans (mine e he))
  simp only [LinkPort.withdrawn, none, List.map_nil, List.append_nil]
  rfl

theorem Holding.acquiredBy_iff (h : Holding) : h.acquiredBy j = true ↔ ∃ m, h = .acquired j m := by
  cases h <;> simp [Holding.acquiredBy]

theorem Holding.holder_acquiredBy {h : Holding} (own : h.acquiredBy j = true) : h.holder = some j := by
  obtain ⟨m, rfl⟩ := h.acquiredBy_iff.1 own
  rfl

/-- Freeing what a link holds as ACQUIRED changes no holder but there. -/
theorem freed_holder {table : PerGroup Holding} {taken : PerGroup Bool}
    (own : ∀ g, taken.get g = true → (table.get g).acquiredBy j = true) (g : Group) :
    (table.get g).holder = ((freed table taken).get g).holder ↔ taken.get g = false := by
  rw [freed, PerGroup.get_ofFn]
  cases lost : taken.get g with
  | false => exact ⟨fun _ => rfl, fun _ => rfl⟩
  | true =>
    rw [Holding.holder_acquiredBy (own g lost)]
    exact ⟨nofun, nofun⟩

/-- It displaces only entries of that link and those groups (R94). -/
theorem displaced_freed {table : PerGroup Holding} {taken : PerGroup Bool}
    (own : ∀ g, taken.get g = true → (table.get g).acquiredBy j = true) {e : Entry}
    (displaces : displaced table (freed table taken) e = true) : e.link = j ∧ ∃ g, e.group = some g ∧ taken.get g = true := by
  obtain ⟨g, group, moved, affected⟩ := (displaced_iff _ _ _).1 displaces
  have lost : taken.get g = true := Bool.eq_true_of_not_eq_false fun kept => moved ((freed_holder own g).2 kept)
  have free : ((freed table taken).get g).holder = none := by
    rw [freed, PerGroup.get_ofFn, lost]
    rfl
  refine ⟨?_, g, group, lost⟩
  rw [Holding.holder_acquiredBy (own g lost), free] at affected
  rcases affected with held | ⟨none, -⟩
  · exact (Option.some.inj held).symm
  · exact absurd rfl none

/-- New attributes, with ACQUIRED holdings lost and entries withdrawn, those of the groups lost among them. -/
theorem State.undergoes_moveHoldings (s : State) (a : LinkAttributes) {taken : PerGroup Bool} {leaves : Entry → Bool}
    (own : ∀ g, taken.get g = true → (s.arbiter.holdings.get g).acquiredBy j = true)
    (mine : ∀ e, leaves e = true → e.link = j)
    (all : ∀ e g, e.link = j → e.group = some g → taken.get g = true → leaves e = true) :
    s.Undergoes j { attributes := a, frees := taken.get, leaves, gone := s.queue.filter leaves, ends := false }
      ((s.setAttributes j a).moveHoldings (freed s.arbiter.holdings taken) leaves) := by
  have goes : (fun e => leaves e || displaced s.arbiter.holdings (freed s.arbiter.holdings taken) e) = leaves := funext fun e => by
    refine Bool.or_eq_left_iff_imp.2 fun displaces => ?_
    obtain ⟨link, g, group, lost⟩ := displaced_freed own displaces
    exact all e g link group lost
  obtain ⟨moved, ports⟩ := (s.setAttributes j a).moveHoldings_eq (freed s.arbiter.holdings taken) leaves
  have held : (s.setAttributes j a).arbiter.holdings = s.arbiter.holdings := rfl
  rw [held, goes] at moved ports
  have bank : (if s.holder .trans = ((freed s.arbiter.holdings taken).get .trans).holder then s.bank
      else { s.bank with fader := s.bank.fader.forget }) = s.bank.forgetWhere (taken.get .trans) := by
    rw [State.holder, Bank.forgetWhere]
    cases lost : taken.get .trans with
    | false => exact if_pos ((freed_holder own _).2 lost)
    | true => exact if_neg fun same => nomatch ((freed_holder own _).1 same).symm.trans lost
  have alone (e : Entry) (he : e ∈ s.queue.filter leaves) : e.link = j := mine e (List.mem_filter.1 he).2
  refine ⟨?_, ?_, fun i other => ?_⟩
  · rw [← bank]
    exact moved
  · exact (ports j).trans (LinkPort.withdrawn_own _ alone)
  · exact (ports i).trans (LinkPort.withdrawn_other _ alone other)

end Sys2Proof.Machine
end

section
/-! SET LINK as one change of its target (R119). -/

namespace Sys2Proof.Machine

variable {s t : State} {j : Link}

theorem State.Undergoes.congr {c d : LinkChange} (h : s.Undergoes j c t) (same : c = d) : s.Undergoes j d t := same ▸ h

theorem State.Undergoes.attributes {c : LinkChange} (h : s.Undergoes j c t) : t.arbiter.attributes.get j = c.attributes := by
  rw [h.state]
  exact PerLink.get_set_self _ j _

theorem State.Undergoes.queue {c : LinkChange} (h : s.Undergoes j c t) : t.queue = s.queue.filter fun e => !c.leaves e := by
  rw [h.state]

/-- What the link still holds as ACQUIRED. -/
theorem State.Undergoes.acquiredBy {c : LinkChange} (h : s.Undergoes j c t) (g : Group) :
    (t.arbiter.holdings.get g).acquiredBy j = (!c.frees g && (s.arbiter.holdings.get g).acquiredBy j) := by
  have held : t.arbiter.holdings.get g = if c.frees g then .free else s.arbiter.holdings.get g := by
    rw [h.state]
    exact tableWithout_get _ _ g
  rw [held]
  cases c.frees g <;> rfl

/-- The group is added to the barred set of the link (R119). -/
def State.addsBar (s : State) (j : Link) (new : PerGroup Bool) (g : Group) : Bool :=
  new.get g && !(s.arbiter.attributes.get j).barred.get g

/-- Step 1 (R119). -/
theorem State.undergoes_setBarred (s : State) (j : Link) (new : PerGroup Bool) :
    s.Undergoes j
      { attributes := { s.arbiter.attributes.get j with barred := new }
        frees := fun g => s.addsBar j new g && (s.arbiter.holdings.get g).acquiredBy j
        leaves := fun e => e.link == j && e.group.any (s.addsBar j new)
        gone := s.queue.filter fun e => e.link == j && e.group.any (s.addsBar j new)
        ends := false } (s.setBarred j new) := by
  let added : PerGroup Bool := .ofFn (s.addsBar j new)
  let taken : PerGroup Bool := .ofFn fun g => added.get g && (s.arbiter.holdings.get g).acquiredBy j
  have added_eq : added.get = s.addsBar j new := funext fun g => PerGroup.get_ofFn _ g
  have taken_eq : taken.get = fun g => s.addsBar j new g && (s.arbiter.holdings.get g).acquiredBy j :=
    funext fun g => (PerGroup.get_ofFn _ g).trans (by rw [added_eq])
  have moved := s.undergoes_moveHoldings (j := j) { s.arbiter.attributes.get j with barred := new } (taken := taken)
    (leaves := fun e => e.link == j && e.group.any added.get)
    (fun g lost => by rw [taken_eq] at lost; exact (Bool.and_eq_true_iff.1 lost).2)
    (fun e leaves => eq_of_beq (Bool.and_eq_true_iff.1 leaves).1)
    (fun e g link group lost => by
      rw [taken_eq] at lost
      rw [link, group, added_eq, beq_self_eq_true, Option.any_some, (Bool.and_eq_true_iff.1 lost).1, Bool.and_self])
  rw [taken_eq, added_eq] at moved
  have whole : s.setBarred j new = (s.setAttributes j { s.arbiter.attributes.get j with barred := new }).moveHoldings
    (freed s.arbiter.holdings taken) fun e => e.link == j && e.group.any added.get := rfl
  rw [whole, added_eq]
  exact moved

/-- Step 2 where the link is disabled (R119). -/
theorem State.undergoes_disableLink (s : State) (j : Link) :
    s.Undergoes j
      { attributes := { s.arbiter.attributes.get j with enabled := false }
        frees := fun g => (s.arbiter.holdings.get g).acquiredBy j
        leaves := fun e => e.link == j
        gone := s.queue.filter fun e => e.link == j
        ends := true } (s.disableLink j) := by
  let taken : PerGroup Bool := .ofFn fun g => (s.arbiter.holdings.get g).acquiredBy j
  have taken_eq : taken.get = fun g => (s.arbiter.holdings.get g).acquiredBy j := funext fun g => PerGroup.get_ofFn _ g
  have moved := s.undergoes_moveHoldings (j := j) { s.arbiter.attributes.get j with enabled := false } (taken := taken)
    (leaves := fun e => e.link == j) (fun g lost => by rw [taken_eq] at lost; exact lost) (fun _ leaves => eq_of_beq leaves)
    (fun _ _ link _ _ => beq_iff_eq.2 link)
  rw [taken_eq] at moved
  exact moved.dropReports

/-- Step 4 (R119). -/
theorem State.undergoes_setReports (s : State) (j : Link) (on : Bool) :
    s.Undergoes j
      { LinkChange.quiet { s.arbiter.attributes.get j with reports := on } with
        ends := (s.arbiter.attributes.get j).reports && !on } (s.setReports j on) := by
  have set := s.undergoes_setAttributes j { s.arbiter.attributes.get j with reports := on }
  unfold State.setReports
  dsimp only
  cases off : (s.arbiter.attributes.get j).reports && !on with
  | false => exact set
  | true => exact set.dropReports

/-- Steps 3 and 4 together. -/
theorem State.undergoes_rankReports (s : State) (j : Link) (rank : Nat) (on : Bool) :
    s.Undergoes j
      { LinkChange.quiet { s.arbiter.attributes.get j with rank := rank, reports := on } with
        ends := (s.arbiter.attributes.get j).reports && !on } ((s.setRank j rank).setReports j on) := by
  have ranked : s.Undergoes j (.quiet { s.arbiter.attributes.get j with rank := rank }) (s.setRank j rank) :=
    s.undergoes_setAttributes j _
  have both := ranked.trans ((s.setRank j rank).undergoes_setReports j on)
  rw [ranked.attributes] at both
  exact both

/-- The link is disabled by the attributes (R119). -/
def State.disables (s : State) (j : Link) (a : LinkAttributes) : Bool := (s.arbiter.attributes.get j).enabled && !a.enabled

/-- What SET LINK takes from its target (R118, R119). -/
def State.linkChange (s : State) (j : Link) (a : LinkAttributes) : LinkChange :=
  { attributes := a
    frees := fun g => (s.disables j a || s.addsBar j a.barred g) && (s.arbiter.holdings.get g).acquiredBy j
    leaves := fun e => e.link == j && (s.disables j a || e.group.any (s.addsBar j a.barred))
    gone := (s.queue.filter fun e => e.link == j && e.group.any (s.addsBar j a.barred)) ++
      if s.disables j a then s.queue.filter fun e => e.link == j && !e.group.any (s.addsBar j a.barred) else []
    ends := s.disables j a || ((s.arbiter.attributes.get j).reports && !a.reports) }

/-- The four steps of a link that is not disabled are that change. -/
theorem State.undergoes_steps_enabled {a : LinkAttributes} (stays : s.disables j a = false) :
    s.Undergoes j (s.linkChange j a)
      ((((s.setBarred j a.barred).setEnabled j a.enabled).setRank j a.rank).setReports j a.reports) := by
  let barred := s.setBarred j a.barred
  have first := s.undergoes_setBarred j a.barred
  have was : barred.arbiter.attributes.get j = { s.arbiter.attributes.get j with barred := a.barred } := first.attributes
  have second : barred.Undergoes j (.quiet { s.arbiter.attributes.get j with barred := a.barred, enabled := a.enabled })
      (barred.setEnabled j a.enabled) := by
    unfold State.setEnabled
    rw [was]
    have notOff : ¬ ((s.arbiter.attributes.get j).enabled && !a.enabled) = true := Bool.eq_false_iff.1 stays
    exact if_neg notOff ▸ barred.undergoes_setAttributes j _
  have last := (barred.setEnabled j a.enabled).undergoes_rankReports j a.rank a.reports
  rw [second.attributes] at last
  have whole := (first.trans second).trans last
  refine whole.congr (LinkChange.ext rfl (funext fun g => ?_) (funext fun e => ?_) ?_ ?_)
  all_goals simp [State.linkChange, LinkChange.andThen, LinkChange.quiet, stays]

/-- The four steps of a link that is disabled are that change. -/
theorem State.undergoes_steps_disabled {a : LinkAttributes} (off : s.disables j a = true) :
    s.Undergoes j (s.linkChange j a)
      ((((s.setBarred j a.barred).setEnabled j a.enabled).setRank j a.rank).setReports j a.reports) := by
  let barred := s.setBarred j a.barred
  have first := s.undergoes_setBarred j a.barred
  have was : barred.arbiter.attributes.get j = { s.arbiter.attributes.get j with barred := a.barred } := first.attributes
  obtain ⟨-, nowOff⟩ := Bool.and_eq_true_iff.1 off
  have disabled : a.enabled = false := by simpa using nowOff
  have step : barred.setEnabled j a.enabled = barred.disableLink j := by
    unfold State.setEnabled
    rw [was]
    exact if_pos off
  have second := barred.undergoes_disableLink j
  have last := (barred.disableLink j).undergoes_rankReports j a.rank a.reports
  rw [second.attributes, was] at last
  rw [step]
  have whole := (first.trans second).trans last
  refine whole.congr (LinkChange.ext ?_ (funext fun g => ?_) (funext fun e => ?_) ?_ ?_)
  · simp [State.linkChange, LinkChange.andThen, LinkChange.quiet, ← disabled]
  · simp only [State.linkChange, LinkChange.andThen, LinkChange.quiet, off, barred, first.acquiredBy, Bool.true_or, Bool.true_and,
      Bool.or_false]
    cases (s.arbiter.holdings.get g).acquiredBy j <;> simp
  · simp only [State.linkChange, LinkChange.andThen, LinkChange.quiet, off, Bool.true_or, Bool.and_true, Bool.or_false]
    cases e.link == j <;> simp
  · simp only [State.linkChange, LinkChange.andThen, LinkChange.quiet, off, barred, first.queue, List.filter_filter, List.append_nil,
      if_true]
    refine congrArg _ (List.filter_congr fun e _ => ?_)
    cases e.link == j <;> simp
  · simp [State.linkChange, LinkChange.andThen, LinkChange.quiet, off]

/-- The four steps of SET LINK are one change of its target (R119). -/
theorem State.undergoes_steps (s : State) (j : Link) (a : LinkAttributes) :
    s.Undergoes j (s.linkChange j a)
      ((((s.setBarred j a.barred).setEnabled j a.enabled).setRank j a.rank).setReports j a.reports) := by
  cases off : s.disables j a with
  | false => exact State.undergoes_steps_enabled off
  | true => exact State.undergoes_steps_disabled off

end Sys2Proof.Machine
end

section
/-! The reports of SET LINK (R102, R119, R121). -/

namespace Sys2Proof.Machine

variable {s t : State} {j : Link}

/-- A report posted again stands where it stood. -/
theorem putReport_putReport (m : Message) (q : List Message) : putReport m (putReport m q) = putReport m q := by
  by_cases waits : ∃ x ∈ q, x.slot = m.slot
  · have again : ∀ x : Message, (fun x => if x.slot = m.slot then m else x) (if x.slot = m.slot then m else x) =
        if x.slot = m.slot then m else x := fun x => by
      by_cases same : x.slot = m.slot
      · rw [if_pos same]; exact if_pos rfl
      · rw [if_neg same]; exact if_neg same
    have there : q.any (fun x => x.slot == m.slot) = true := by simpa using waits
    obtain ⟨x, hx, same⟩ := waits
    have still : (q.map fun x => if x.slot = m.slot then m else x).any (fun x => x.slot == m.slot) = true :=
      List.any_eq_true.2 ⟨m, List.mem_map.2 ⟨x, hx, if_pos same⟩, beq_self_eq_true _⟩
    have once : putReport m q = q.map fun x => if x.slot = m.slot then m else x := if_pos there
    rw [once, putReport, if_pos still, List.map_map]
    exact List.map_congr_left fun x _ => again x
  · have free : ∀ x ∈ q, x.slot ≠ m.slot := fun x hx same => waits ⟨x, hx, same⟩
    rw [putReport_join free]
    exact putReport_replace rfl fun x hx => free x (by simpa using hx)

theorem LinkPort.report_report (p : LinkPort) (m : Message) : (p.report m).report m = p.report m := by
  simp only [LinkPort.report, putReport_putReport]

/-- A report posted for one cause and then for another is that of either. -/
theorem LinkPort.report_either (p : LinkPort) (m : Message) (takes first second : Bool) :
    (if takes = true ∧ second = true then (if first = true ∧ takes = true then p.report m else p).report m
      else if first = true ∧ takes = true then p.report m else p) = if takes && (first || second) then p.report m else p := by
  cases takes <;> cases first <;> cases second <;> simp [LinkPort.report_report]

/-- Freeing groups that a link holds changes what the table shows where there is such a group (R121). -/
theorem shown_tableWithout {table : PerGroup Holding} {frees : Group → Bool}
    (own : ∀ g, frees g = true → (table.get g).acquiredBy j = true) :
    table.map Holding.shown ≠ (tableWithout table frees).map Holding.shown ↔ Group.all.any frees = true := by
  rw [ne_eq, shown_eq_iff, not_forall, List.any_eq_true]
  refine ⟨fun ⟨g, changed⟩ => ⟨g, Group.mem_all g, ?_⟩, fun ⟨g, _, lost⟩ => ⟨g, ?_⟩⟩
  · by_contra kept
    exact changed (by rw [tableWithout_get, if_neg kept])
  · obtain ⟨m, held⟩ := (table.get g).acquiredBy_iff.1 (own g lost)
    rw [tableWithout_get, if_pos lost, held]
    exact nofun

/-- The link takes reports once another has been given its attributes. -/
def State.takesReportsAfter (s : State) (j : Link) (a : LinkAttributes) (i : Link) : Bool :=
  if i = j then a.enabled && a.reports else s.takesReports i

/-- The link is newly enabled, or its reports are newly on (R119). -/
def State.newlyReports (s : State) (j : Link) (a : LinkAttributes) : Bool :=
  a.enabled && a.reports && !((s.arbiter.attributes.get j).enabled && (s.arbiter.attributes.get j).reports)

theorem State.Undergoes.takesReports {c : LinkChange} (h : s.Undergoes j c t) (i : Link) :
    t.takesReports i = s.takesReportsAfter j c.attributes i := by
  have given : t.arbiter.attributes = s.arbiter.attributes.set j c.attributes := by rw [h.state]
  unfold State.takesReports State.takesReportsAfter
  rw [given, PerLink.get_set]
  split <;> rfl

theorem State.Undergoes.anyPort {c : LinkChange} (h : s.Undergoes j c t) (i : Link) :
    t.links.get i = if i = j then c.port (s.links.get i) else s.links.get i := by
  split
  · next same => rw [same, h.port]
  · next other => exact h.others i other

/-- A HOLDINGS report where a change has freed a group. -/
theorem State.Undergoes.reportHoldings {c : LinkChange} (h : s.Undergoes j c t) (running : s.setup.phase = .running)
    (own : ∀ g, c.frees g = true → (s.arbiter.holdings.get g).acquiredBy j = true) (f : FrameCount) (i : Link) :
    let u := t.reportHoldings s.arbiter.holdings f
    u = { t with links := u.links } ∧
    u.links.get i = if Group.all.any c.frees = true ∧ s.takesReportsAfter j c.attributes i = true
      then (t.links.get i).report (t.holdingsMessage f) else t.links.get i := by
  have table : t.arbiter.holdings = tableWithout s.arbiter.holdings c.frees := by rw [h.state]
  have phase : t.setup.phase = .running := by rw [h.state]; exact running
  obtain ⟨told, ports⟩ := t.reportHoldings_eq s.arbiter.holdings f
  refine ⟨told, (ports i).trans ?_⟩
  have due : (s.arbiter.holdings.map Holding.shown ≠ t.arbiter.holdings.map Holding.shown ∧ t.setup.phase = .running ∧
      t.takesReports i = true) ↔ Group.all.any c.frees = true ∧ s.takesReportsAfter j c.attributes i = true := by
    rw [table, shown_tableWithout own, h.takesReports]
    exact and_congr_right fun _ => and_iff_right phase
  simp only [due]
  rfl

/-- A link made welcome is owed BANK STATE and TALLY and is told the holdings (R102, R119). -/
theorem State.welcome_eq (s : State) (j : Link) :
    s.welcome j = { s with
      arbiter := { s.arbiter with refresh := s.arbiter.refresh.set j true }, links := (s.welcome j).links } := by
  simp only [State.welcome, State.postReportTo, State.postWhere_eq]
  rfl

theorem State.welcome_links (running : s.setup.phase = .running) (j i : Link) :
    (s.welcome j).links.get i = if s.takesReports i = true ∧ i = j
      then (s.links.get i).report (s.holdingsMessage s.reference.frameCount) else s.links.get i := by
  simp only [← beq_iff_eq (a := i)]
  exact State.postWhere_links (s := s.setArbiter { s.arbiter with refresh := s.arbiter.refresh.set j true }) running _ _ i

/-- SET LINK: its change, the report of the holdings, and the welcome where it is due. -/
theorem State.changeLink_steps (s : State) (j : Link) (a : LinkAttributes) :
    ∃ moved, s.Undergoes j (s.linkChange j a) moved ∧
      s.changeLink j a = if s.newlyReports j a then (moved.reportHoldings s.arbiter.holdings s.reference.frameCount).welcome j
        else moved.reportHoldings s.arbiter.holdings s.reference.frameCount :=
  ⟨_, s.undergoes_steps j a, rfl⟩

/-- The state after SET LINK. -/
theorem State.changeLink_eq (running : s.setup.phase = .running) (j : Link) (a : LinkAttributes) :
    let c := s.linkChange j a
    let t := s.changeLink j a
    t = { s with
      bank := s.bank.forgetWhere (c.frees .trans)
      arbiter := { s.arbiter with
        attributes := s.arbiter.attributes.set j a
        holdings := tableWithout s.arbiter.holdings c.frees
        refresh := if s.newlyReports j a then s.arbiter.refresh.set j true else s.arbiter.refresh }
      queue := s.queue.filter fun e => !c.leaves e
      links := t.links
      log := withdrawnLog s.log s.reference.frameCount c.gone } ∧
    ∀ i, let p := if i = j then c.port (s.links.get i) else s.links.get i
      t.links.get i =
        if s.takesReportsAfter j a i && (Group.all.any c.frees || (decide (i = j) && s.newlyReports j a))
        then p.report (.holdings s.reference.frameCount ((tableWithout s.arbiter.holdings c.frees).map Holding.shown)) else p := by
  intro c t
  obtain ⟨moved, change, whole⟩ := s.changeLink_steps j a
  let told := moved.reportHoldings s.arbiter.holdings s.reference.frameCount
  have own (g : Group) (lost : c.frees g = true) : (s.arbiter.holdings.get g).acquiredBy j = true := (Bool.and_eq_true_iff.1 lost).2
  have report (i : Link) := change.reportHoldings running own s.reference.frameCount i
  have state : told = _ := (report j).1.trans (congrArg (fun u : State => { u with links := told.links }) change.state)
  have message : moved.holdingsMessage s.reference.frameCount =
      .holdings s.reference.frameCount ((tableWithout s.arbiter.holdings c.frees).map Holding.shown) := by
    rw [change.state]
    rfl
  have takes (i : Link) : told.takesReports i = s.takesReportsAfter j a i := by
    have same : told.takesReports i = moved.takesReports i := by rw [show told = _ from (report j).1]; rfl
    exact same.trans (change.takesReports i)
  have port (i : Link) : told.links.get i =
      if Group.all.any c.frees = true ∧ s.takesReportsAfter j a i = true
      then (if i = j then c.port (s.links.get i) else s.links.get i).report (.holdings s.reference.frameCount
        ((tableWithout s.arbiter.holdings c.frees).map Holding.shown))
      else if i = j then c.port (s.links.get i) else s.links.get i := by
    rw [← message, ← change.anyPort i]
    exact (report i).2
  cases newly : s.newlyReports j a with
  | false =>
    have plain : t = told := whole.trans (if_neg (Bool.eq_false_iff.1 newly))
    refine ⟨by rw [plain]; exact state, fun i => ?_⟩
    intro p
    rw [plain, port i, Bool.and_false]
    exact (if_neg fun both => nomatch both.2).symm.trans (p.report_either _ _ _ false)
  | true =>
    have welcomed : t = told.welcome j := whole.trans (if_pos newly)
    have phase : told.setup.phase = .running := by rw [state]; exact running
    have again : told.holdingsMessage told.reference.frameCount = moved.holdingsMessage s.reference.frameCount := by
      rw [state, change.state]
      rfl
    refine ⟨?_, fun i => ?_⟩
    · have welcome := told.welcome_eq j
      rw [← welcomed] at welcome
      rw [welcome, state]
      rfl
    · intro p
      rw [welcomed, State.welcome_links phase, takes, again, message, port i, Bool.and_true, ← p.report_either]
      simp only [decide_eq_true_eq, p]

end Sys2Proof.Machine
end

section
/-! SET LINK as a command (R118, R119). -/

namespace Sys2Proof.Machine

variable {s : State} {l j : Link} {tag : Byte}

/-! What it reads, and its checks. -/

theorem readSetLink_bytes (j : Link) (enabled reports : Bool) (rank : Word16) (barred : PerGroup Bool) :
    readSetLink (Link.code j :: bit enabled :: rank.bytes ++ (Group.all.map fun g => bit (barred.get g)) ++ [bit reports]) =
      some (j, { enabled, rank := min rank.toNat 3, barred, reports }) := by
  simp only [Word16.bytes, Group.all, List.map_cons, List.map_nil, List.cons_append, List.nil_append, readSetLink,
    linkOf_code, flagOf_bit, number_bytes, clampNat_zero, Option.bind_eq_bind, Option.bind_some]
  rfl

/-- What SET LINK refuses as a value: a link that would disable itself, or a group barred from its static holder (R118). -/
theorem linkSettable_eq_false (l j : Link) (a : LinkAttributes) (s : State) : linkSettable l (j, a) s = false ↔
    (j = l ∧ a.enabled = false) ∨ ∃ g, a.barred.get g = true ∧ s.arbiter.holdings.get g = .static j := by
  simp only [linkSettable, Bool.and_eq_false_iff, Bool.not_eq_false', Bool.and_eq_true, beq_iff_eq, Bool.not_eq_true',
    List.all_eq_false, Group.mem_all, true_and, not_or, Bool.not_eq_false]

/-- The answer's data (R118, R147). -/
def setLinkData (j : Link) (a : LinkAttributes) : List Byte :=
  Link.code j :: bit a.enabled :: twoBytes a.rank ++ groupSetBytes a.barred ++ [bit a.reports]

theorem execSetLink_checks (serves : s.Serves l) {ps : List Byte} {a : LinkAttributes} (hl : ps.length + 2 = Kind.setLink.bodyLength)
    (read : readSetLink ps = some (j, a)) (settable : linkSettable l (j, a) s = true) :
    GroupChecks (.setLink l tag ps) s .setLink l tag .setup true fun u =>
      ((u.changeLink j a).touch l .setup).answer l tag .setLink (setLinkData j a) := by
  have checks := groupChecks_of_read (k := .setLink) (tag := tag) (fun _ => rfl) serves hl read settable
  exact checks

/-! Ports with a reply slot reserved. -/

/-- The port with a reply slot fewer reserved. -/
def LinkPort.unreserve (p : LinkPort) : LinkPort := { p with reserved := p.reserved - 1 }

theorem LinkPort.answered_unreserve (p : LinkPort) (gone : List Entry) :
    (p.answered gone).unreserve = p.unreserve.answered gone := by
  simp only [LinkPort.answered, LinkPort.unreserve, Nat.sub_right_comm]

theorem LinkChange.port_unreserve (c : LinkChange) (p : LinkPort) : (c.port p).unreserve = c.port p.unreserve := by
  unfold LinkChange.port
  rw [← LinkPort.answered_unreserve]
  split <;> rfl

/-- A port once a change and its report have come to it: the change where it is the target's, the report where it is due. -/
def LinkChange.told (c : LinkChange) (own due : Bool) (m : Message) (p : LinkPort) : LinkPort :=
  let q := if own then c.port p else p
  if due then q.report m else q

theorem LinkChange.told_unreserve (c : LinkChange) (own due : Bool) (m : Message) (p : LinkPort) :
    (c.told own due m p).unreserve = c.told own due m p.unreserve := by
  unfold LinkChange.told
  rw [← LinkChange.port_unreserve]
  cases own <;> cases due <;> rfl

/-- A link whose report slots are emptied, and which is told nothing, has none but replies to send (R119). -/
theorem LinkChange.told_replies {c : LinkChange} {own due : Bool} (target : own = true) (closed : c.ends = true)
    (silent : due = false) (r : Message) (p : LinkPort) : ∀ m ∈ (c.told own due r p).transmit, m.slot = none := by
  have emptied : c.told own due r p = (p.answered c.gone).dropReports := by
    rw [LinkChange.told, target, silent, LinkChange.port, closed]
    rfl
  intro m hm
  rw [emptied] at hm
  exact Option.isNone_iff_eq_none.1 (List.mem_filter.1 hm).2

/-! Its work. -/

/-- The HOLDINGS report goes to the link (R119, R121). -/
def State.linkReportDue (s : State) (j : Link) (a : LinkAttributes) (i : Link) : Bool :=
  s.takesReportsAfter j a i && (Group.all.any (s.linkChange j a).frees || (decide (i = j) && s.newlyReports j a))

/-- The state a SET LINK leaves, its mark set and its answer posted. -/
theorem State.setLink_eq (serves : s.Serves l) (j : Link) (a : LinkAttributes) :
    let c := s.linkChange j a
    let t := ((((s.heard l).reserved l).changeLink j a).touch l .setup).answer l tag .setLink (setLinkData j a)
    t = { s with
      bank := s.bank.forgetWhere (c.frees .trans)
      arbiter := { s.arbiter with
        attributes := s.arbiter.attributes.set j a
        holdings := marked (tableWithout s.arbiter.holdings c.frees) l .setup
        refresh := if s.newlyReports j a then s.arbiter.refresh.set j true else s.arbiter.refresh }
      queue := s.queue.filter fun e => !c.leaves e
      links := t.links
      log := withdrawnLog s.log s.reference.frameCount c.gone } ∧
    ∀ i, let q := c.told (decide (i = j)) (s.linkReportDue j a i)
          (.holdings s.reference.frameCount (.ofFn fun g => (t.arbiter.holdings.get g).shown)) ((s.heard l).links.get i)
      t.links.get i = if i = l then { q with transmit := q.transmit ++ [.done tag 0x34 (setLinkData j a)] } else q := by
  intro c t
  have running : ((s.heard l).reserved l).setup.phase = .running := serves.1
  let changed := ((s.heard l).reserved l).changeLink j a
  obtain ⟨state, ports⟩ := State.changeLink_eq running j a
  have touched : t = (changed.worked l .setup).answer l tag .setLink (setLinkData j a) := by
    show (changed.touch l .setup).answer _ _ _ _ = _
    rw [State.touch_eq]
  have apart : t = { changed.worked l .setup with links := t.links } := by
    rw [touched]
    rfl
  have whole : t = _ := apart.trans (congrArg (fun u : State => { u.worked l .setup with links := t.links }) state)
  have message : Message.holdings s.reference.frameCount ((tableWithout s.arbiter.holdings c.frees).map Holding.shown) =
      .holdings s.reference.frameCount (.ofFn fun g => (t.arbiter.holdings.get g).shown) := by
    have held : t.arbiter.holdings = marked (tableWithout s.arbiter.holdings c.frees) l .setup := congrArg (·.arbiter.holdings) whole
    simp only [held, marked_shown]
    rfl
  refine ⟨whole, fun i => ?_⟩
  intro q
  have port : changed.links.get i = c.told (decide (i = j)) (s.linkReportDue j a i)
      (.holdings s.reference.frameCount (.ofFn fun g => (t.arbiter.holdings.get g).shown))
      (((s.heard l).reserved l).links.get i) := by
    refine (ports i).trans ?_
    rw [← message]
    simp only [LinkChange.told, decide_eq_true_eq]
    rfl
  have reply : t.links.get i = if i = l then (changed.links.get l).reply (.done tag 0x34 (setLinkData j a)) else changed.links.get i := by
    rw [touched]
    exact PerLink.get_modify ..
  by_cases own : i = l
  · subst own
    have served : (((s.heard i).reserved i).links.get i).unreserve = (s.heard i).links.get i := by
      rw [State.reserved, PerLink.get_set_self]
      rfl
    have left : (changed.links.get i).unreserve = q := by rw [port, LinkChange.told_unreserve, served]
    rw [reply, if_pos rfl, if_pos rfl, ← left]
    rfl
  · have untouched : ((s.heard l).reserved l).links.get i = (s.heard l).links.get i := PerLink.get_set_of_ne _ own _
    rw [reply, if_neg own, if_neg own, port, untouched]

theorem or_any_or {α : Type} (b : Bool) (p : α → Bool) (o : Option α) : (b || o.any fun x => b || p x) = (b || o.any p) := by
  cases b <;> simp

/-- Settles O51. -/
theorem linkSettings : Obligations.LinkSettings := by
  intro s l tag target enabled reports rank barred serves a fields c out wrong was goes frees ends newly added gone done
  have read : readSetLink (Link.code target :: bit enabled :: rank.bytes ++ fields ++ [bit reports]) = some (target, a) :=
    readSetLink_bytes target enabled reports rank barred
  have hl : (Link.code target :: bit enabled :: rank.bytes ++ fields ++ [bit reports]).length + 2 = Kind.setLink.bodyLength := rfl
  have wrong_iff : linkSettable l (target, a) s = false ↔ wrong := linkSettable_eq_false l target a s
  have refused (h : wrong) : out .badValue :=
    exec_request_invalid (k := .setLink) (fun _ => rfl) serves hl read (wrong_iff.2 h)
  have checks (h : ¬ wrong) := execSetLink_checks (tag := tag) serves hl read (Bool.eq_true_of_not_eq_false fun f => h (wrong_iff.1 f))
  refine ⟨refused, fun h => (checks h).barred, fun h => (checks h).notHolder, fun h => (checks h).locked, fun h may unlocked => ?_⟩
  let t := ((((s.heard l).reserved l).changeLink target a).touch l .setup).answer l tag .setLink (setLinkData target a)
  obtain ⟨state, ports⟩ := State.setLink_eq (tag := tag) serves target a
  have frees_eq : (s.linkChange target a).frees = frees := funext fun g => by
    simp only [State.linkChange, Holding.acquiredBy_eq]
    rfl
  have leaves_eq : (s.linkChange target a).leaves =
      fun e => e.link == target && ((was.enabled && !enabled) || e.group.any goes) := funext fun e => by
    have added_or : ((was.enabled && !enabled) || e.group.any goes) = ((was.enabled && !enabled) || e.group.any added) :=
      or_any_or _ added _
    rw [added_or]
    rfl
  rw [frees_eq, leaves_eq] at state
  refine ⟨t, (checks h).passed may fun _ => unlocked, state, fun j => ?ports, fun ended m hm => ?empty⟩
  case ports =>
    intro p takes told answered emptied reported
    have due : s.linkReportDue target a j = told := by
      rw [State.linkReportDue, frees_eq]
      rfl
    have changed : (if decide (j = target) then (s.linkChange target a).port p else p) = emptied := by
      by_cases own : j = target
      · rw [if_pos (decide_eq_true own)]
        show _ = if j = target ∧ ends = true then _ else _
        have mine : answered = p.answered gone := if_pos own
        rw [mine, LinkChange.port]
        exact if_congr (and_iff_right own).symm rfl rfl
      · have other : answered = p := if_neg own
        rw [if_neg (by simpa using own)]
        have kept : emptied = answered := if_neg fun both => own both.1
        rw [kept, other]
    have same (m : Message) : (s.linkChange target a).told (decide (j = target)) (s.linkReportDue target a j) m p =
        if told then emptied.report m else emptied := by
      rw [due, ← changed]
      rfl
    exact (ports j).trans (congrArg (fun q : LinkPort => if j = l then { q with transmit := q.transmit ++ [done] } else q) (same _))
  case empty =>
    have closed : (s.linkChange target a).ends = true := by
      rcases ended with ⟨on, off⟩ | ⟨on, off⟩
      · have disabled : s.disables target a = true := Bool.and_eq_true_iff.2 ⟨on, congrArg not off⟩
        rw [State.linkChange, disabled, Bool.true_or]
      · have silenced : ((s.arbiter.attributes.get target).reports && !a.reports) = true :=
          Bool.and_eq_true_iff.2 ⟨on, congrArg not off⟩
        rw [State.linkChange, silenced, Bool.or_true]
    have silent : s.linkReportDue target a target = false := by
      have deaf : s.takesReportsAfter target a target = false := by
        refine (if_pos rfl).trans (Bool.and_eq_false_iff.2 ?_)
        exact ended.imp And.right And.right
      rw [State.linkReportDue, deaf, Bool.false_and]
    have replies := LinkChange.told_replies (decide_eq_true (rfl : target = target)) closed silent
    rw [show t.links.get target = _ from ports target] at hm
    split at hm
    · rcases List.mem_append.1 hm with old | new
      · exact replies _ _ m old
      · rw [List.mem_singleton.1 new]
        rfl
    · exact replies _ _ m hm

end Sys2Proof.Machine
end

section
/-! Events of a link outside its requests: frames that bring none, and the transmitter (R120, R149 to R154). -/

namespace Sys2Proof.Machine

variable {s : State} {l : Link}

/-- A good frame of an undefined kind takes a reply slot and is refused (R149, R152). -/
theorem State.takeBody_undefined {kind : Byte} (undefined : Kind.ofCode kind = none) (serves : s.Serves l) (tag : Byte)
    (ps : List Byte) : s.takeBody l (kind :: tag :: ps) = (s.heard l).refused l tag kind .badKind none := by
  have taken (t : State) : t.takeRequest l kind tag ps = t.withReplySlot l fun u => u.refuse l tag kind .badKind none := by
    simp only [State.takeRequest, undefined, State.takeUndefined]
  unfold State.takeBody
  simp only [taken]
  rw [State.onGoodFrame_serves serves, State.refuse_reserved]

/-- A good frame on a disabled link is counted, and no request is taken from it (R120). -/
theorem State.onGoodFrame_disabled (running : s.setup.phase = .running) (disabled : s.enabled l = false)
    (handle : State → State) : s.onGoodFrame l handle = s.heard l := by
  simp [State.onGoodFrame, running, disabled, Phase.isRunning, State.heard_eq]

/-- A frame in progress is discarded while the part runs, and at no other time (R150, R151). -/
theorem State.discardFrame_eq (s : State) (l : Link) :
    s.discardFrame l = if s.setup.phase = .running then s.modifyLink l LinkPort.badFrame else s := by
  simp only [State.discardFrame, Phase.isRunning_iff]

theorem exec_byteGapExpiry (s : State) (l : Link) :
    exec (.byteGapExpiry l) s = .next (if (s.links.get l).receiver = .hunt then s else s.discardFrame l) := rfl

/-- A change of one port that leaves the port as it is. -/
theorem State.modifyLink_self {f : LinkPort → LinkPort} (same : f (s.links.get l) = s.links.get l) : s.modifyLink l f = s := by
  simp only [State.modifyLink, State.setLinks, PerLink.modify_eq_set, PerLink.set_eq_self _ _ _ same.symm]

theorem LinkPort.begin_next {p : LinkPort} {m : Message} {rest : List Message} (idle : p.sending = none)
    (queue : p.transmit = m :: rest) : p.begin = { p with sending := some m, transmit := rest } := by
  simp only [LinkPort.begin, idle, queue]

theorem LinkPort.begin_none {p : LinkPort} (h : p.sending ≠ none ∨ p.transmit = []) : p.begin = p := by
  unfold LinkPort.begin
  split
  · next m rest idle queue => exact absurd h (by simp [idle, queue])
  · rfl
  · rfl

/-- The counters tell a reply by the kind its body begins with (R146, R154). -/
theorem Counters.sent_eq (c : Counters) (m : Message) : c.sent m = { c with
    doneSent := if m.body.head? = some 0x80 then bump c.doneSent else c.doneSent
    refusedSent := if m.body.head? = some 0x81 then bump c.refusedSent else c.refusedSent } := by
  cases m <;> rfl

theorem LinkPort.finish_sent {p : LinkPort} {m : Message} (sending : p.sending = some m) :
    p.finish = { p with sending := none, counters := p.counters.sent m } := by
  simp only [LinkPort.finish, sending]

theorem LinkPort.finish_idle {p : LinkPort} (idle : p.sending = none) : p.finish = p := by
  simp only [LinkPort.finish, idle]

/-- Settles O57. -/
theorem linkEvents : Obligations.LinkEvents := by
  intro s l p counted bad
  have discarded (running : s.setup.phase = .running) : s.discardFrame l = bad := by
    rw [State.discardFrame_eq, if_pos running]
    rfl
  have ignored (other : s.setup.phase ≠ .running) : s.discardFrame l = s := by
    rw [State.discardFrame_eq, if_neg other]
  refine ⟨fun kind tag ps undefined serves => ?undefined, fun kind tag ps running disabled => ?disabled,
    fun _ running => ?discarded, fun _ other => ?ignored, fun running amid => ?gap, fun quiet => ?noGap,
    fun m rest idle queue => ?begins, fun none => ?noBegin, fun m sending => ?ends, fun idle => ?noEnd⟩
  case undefined => exact congrArg Host.Outcome.next (State.takeBody_undefined undefined serves tag ps)
  case disabled => exact congrArg Host.Outcome.next (State.onGoodFrame_disabled running disabled _)
  case discarded => exact congrArg Host.Outcome.next (discarded running)
  case ignored => exact congrArg Host.Outcome.next (ignored other)
  case gap => rw [exec_byteGapExpiry, if_neg amid, discarded running]
  case noGap =>
    rw [exec_byteGapExpiry]
    split
    · rfl
    · next amid => rw [ignored (quiet.resolve_right amid)]
  case begins =>
    exact congrArg (fun q => Host.Outcome.next { s with links := s.links.set l q }) (LinkPort.begin_next idle queue)
  case noBegin => exact congrArg Host.Outcome.next (State.modifyLink_self (LinkPort.begin_none none))
  case ends =>
    have finished := LinkPort.finish_sent sending
    rw [Counters.sent_eq] at finished
    exact congrArg (fun q => Host.Outcome.next { s with links := s.links.set l q }) finished
  case noEnd => exact congrArg Host.Outcome.next (State.modifyLink_self (LinkPort.finish_idle idle))

end Sys2Proof.Machine
end

section
/-! The walks over the effects registers and the holdings (R122, R132). -/

namespace Sys2Proof.Machine

/-! A walk step over elements in ascending code. -/

section
variable {α : Type} (code : α → Nat)

/-- The elements a walk step looks at (R122, R132): all for FIRST and from START, those above the cursor for NEXT. -/
def WalkLooks (cursor : Cursor α) (next : Bool) (y : α) : Prop :=
  next = false ∨ cursor = .start ∨ ∃ x, cursor = .on x ∧ code x < code y

variable {code}

theorem WalkLooks.above {cursor : Cursor α} {next : Bool} {y z : α} (looked : WalkLooks code cursor next y)
    (above : code y < code z) : WalkLooks code cursor next z := by
  rcases looked with first | start | ⟨x, on, below⟩
  · exact .inl first
  · exact .inr (.inl start)
  · exact .inr (.inr ⟨x, on, below.trans above⟩)

variable [DecidableEq α]

/-- What follows an element of an ascending list are its elements of greater code. -/
theorem mem_drop_dropWhile {x y : α} : ∀ {as : List α}, as.Pairwise (code · < code ·) → x ∈ as →
    (y ∈ (as.dropWhile fun z => z != x).drop 1 ↔ y ∈ as ∧ code x < code y)
  | [], _, here => nomatch here
  | a :: rest, up, here => by
    obtain ⟨least, up⟩ := List.pairwise_cons.1 up
    by_cases same : a = x
    · subst same
      rw [List.dropWhile_cons_of_neg (by simp), List.drop_one, List.tail_cons, List.mem_cons]
      refine ⟨fun after => ⟨.inr after, least y after⟩, fun ⟨found, above⟩ => found.resolve_left fun e => ?_⟩
      exact lt_irrefl _ (e ▸ above)
    · have later : x ∈ rest := (List.mem_cons.1 here).resolve_left fun e => same e.symm
      rw [List.dropWhile_cons_of_pos (by simpa using same), mem_drop_dropWhile up later, List.mem_cons]
      refine and_congr_left fun above => (or_iff_right fun e => ?_).symm
      exact lt_asymm above (e ▸ least x later)

variable {all : List α} {cursor : Cursor α} {next : Bool} {here : α → Bool}

theorem mem_walkFrom (up : all.Pairwise (code · < code ·)) (every : ∀ y, y ∈ all) (y : α) :
    y ∈ walkFrom all cursor next ↔ WalkLooks code cursor next y := by
  cases next with
  | false => simp [walkFrom, WalkLooks, every]
  | true =>
    cases cursor with
    | start => simp [walkFrom, WalkLooks, every]
    | finished => simp [walkFrom, WalkLooks]
    | on x => simpa [walkFrom, WalkLooks, every] using mem_drop_dropWhile (y := y) up (every x)

theorem walkFrom_sublist (all : List α) (cursor : Cursor α) (next : Bool) : (walkFrom all cursor next).Sublist all := by
  unfold walkFrom
  split
  · split
    · exact .refl _
    · exact (List.drop_sublist _ _).trans (List.dropWhile_sublist _)
    · exact List.nil_sublist _
  · exact .refl _

theorem mem_walkFound (up : all.Pairwise (code · < code ·)) (every : ∀ y, y ∈ all) (y : α) :
    y ∈ walkFound all cursor next here ↔ WalkLooks code cursor next y ∧ here y = true := by
  rw [walkFound, List.mem_filter, mem_walkFrom up every]

theorem walkFound_nil (up : all.Pairwise (code · < code ·)) (every : ∀ y, y ∈ all)
    (nothing : ∀ y, WalkLooks code cursor next y → ¬ here y = true) : walkFound all cursor next here = [] :=
  List.eq_nil_iff_forall_not_mem.2 fun y found => by
    obtain ⟨looked, present⟩ := (mem_walkFound up every y).1 found
    exact nothing y looked present

/-- The walk stands on the lowest element it finds; nothing follows where no element above that one is there. -/
theorem walkFound_cons (up : all.Pairwise (code · < code ·)) (every : ∀ y, y ∈ all) {x : α}
    (looked : WalkLooks code cursor next x) (present : here x = true)
    (lowest : ∀ y, WalkLooks code cursor next y → code y < code x → ¬ here y = true) {last : Bool}
    (ends : last = true ↔ ∀ y, code x < code y → ¬ here y = true) :
    ∃ rest, walkFound all cursor next here = x :: rest ∧ rest.isEmpty = last := by
  have sorted : (walkFound all cursor next here).Pairwise (code · < code ·) :=
    up.sublist (List.filter_sublist.trans (walkFrom_sublist all cursor next))
  have mem (y : α) := mem_walkFound (cursor := cursor) (next := next) (here := here) up every y
  have found := (mem x).2 ⟨looked, present⟩
  generalize walkFound all cursor next here = row at sorted mem found
  cases row with
  | nil => exact nomatch found
  | cons a rest =>
    obtain ⟨least, -⟩ := List.pairwise_cons.1 sorted
    obtain rfl : x = a := by
      refine (List.mem_cons.1 found).resolve_right fun later => ?_
      obtain ⟨looked, present⟩ := (mem a).1 (List.mem_cons_self ..)
      exact lowest a looked (least x later) present
    refine ⟨rest, rfl, Bool.eq_iff_iff.2 (Iff.trans ?_ ends.symm)⟩
    rw [List.isEmpty_iff, List.eq_nil_iff_forall_not_mem]
    refine ⟨fun empty y above present => ?_, fun none y later => ?_⟩
    · refine empty y ((List.mem_cons.1 ((mem y).2 ⟨looked.above above, present⟩)).resolve_left fun e => ?_)
      exact lt_irrefl _ (e ▸ above)
    · exact none y (least y later) ((mem y).1 (List.mem_cons_of_mem _ later)).2

end

/-! The two walks as commands. -/

variable {s : State} {l : Link} {tag : Byte} {next : Bool}

theorem Register.all_ascending : Register.all.Pairwise fun x y => (Register.code x).toNat < (Register.code y).toNat := by decide

theorem Group.all_ascending : Group.all.Pairwise fun x y => (Group.code x).toNat < (Group.code y).toNat := by decide

theorem readOne_walkStepOf_bit (next : Bool) : readOne walkStepOf [bit next] = some next := flagOf_bit next

theorem exec_walkMemory (serves : s.Serves l) {found : List Register} (walk : s.memoryFound l next = found) :
    exec (.walkMemory l tag [bit next]) s = .next (State.said
      { s.heard l with memory := { s.memory with walk := s.memory.walk.set l (walkCursor found) } } l
      (.done tag 0x2B (s.walkMemoryData found))) := by
  subst walk
  refine (exec_groupless (k := .walkMemory) (fun _ => rfl) serves rfl (readOne_walkStepOf_bit next)).trans ?_
  exact congrArg Host.Outcome.next (State.answer_reserved
    { s.heard l with memory := { s.memory with walk := s.memory.walk.set l (walkCursor (s.memoryFound l next)) } } l tag _ _)

theorem exec_walkHoldings (serves : s.Serves l) {found : List Group} (walk : s.holdingsFound l next = found) :
    exec (.walkHoldings l tag [bit next]) s = .next (State.said
      { s.heard l with arbiter := { s.arbiter with walk := s.arbiter.walk.set l (walkCursor found) } } l
      (.done tag 0x2C (s.walkHoldingsData found))) := by
  subst walk
  refine (exec_groupless (k := .walkHoldings) (fun _ => rfl) serves rfl (readOne_walkStepOf_bit next)).trans ?_
  exact congrArg Host.Outcome.next (State.answer_reserved
    { s.heard l with arbiter := { s.arbiter with walk := s.arbiter.walk.set l (walkCursor (s.holdingsFound l next)) } } l tag _ _)

theorem Holding.holder_isSome (h : Holding) : h.holder.isSome = true ↔ h ≠ .free := by cases h <;> simp [Holding.holder]

/-- Settles O53: what a walk step finds are the elements it looks at, in ascending code, of those that are there. -/
theorem walks : Obligations.Walks := by
  intro s l tag next serves
  refine ⟨?memory, ?holdings⟩
  case memory =>
    intro stored looked at'
    have here (r : Register) : (!(s.memory.registers.get r).isEmpty) = true ↔ stored r :=
      Iff.of_eq (Bool.not_eq_true' _)
    refine ⟨fun nothing => ?_, fun r looks present lowest last ends => ?_⟩
    · have walk : s.memoryFound l next = [] :=
        walkFound_nil Register.all_ascending Register.mem_all fun r looks => mt (here r).1 (nothing r looks)
      exact exec_walkMemory serves walk
    · obtain ⟨rest, walk, flag⟩ := walkFound_cons Register.all_ascending Register.mem_all looks ((here r).2 present)
        (fun q looks below => mt (here q).1 (lowest q looks below)) (by simpa only [here] using ends)
      rw [← flag]
      exact exec_walkMemory serves walk
  case holdings =>
    intro held looked at'
    have here (g : Group) : (s.holder g).isSome = true ↔ held g := Holding.holder_isSome _
    refine ⟨fun nothing => ?_, fun g looks present lowest last ends => ?_⟩
    · have walk : s.holdingsFound l next = [] :=
        walkFound_nil Group.all_ascending Group.mem_all fun g looks => mt (here g).1 (nothing g looks)
      exact exec_walkHoldings serves walk
    · intro shown
      have bytes : (s.arbiter.holdings.get g).walkBytes = shown := by
        dsimp only [shown]
        cases s.arbiter.holdings.get g <;> rfl
      obtain ⟨rest, walk, flag⟩ := walkFound_cons Group.all_ascending Group.mem_all looks ((here g).2 present)
        (fun q looks below => mt (here q).1 (lowest q looks below)) (by simpa only [here] using ends)
      rw [← flag, ← bytes]
      exact exec_walkHoldings serves walk

end Sys2Proof.Machine
end

section
/-! CLAIM, alone and two taken together (R107 to R109, R121). -/

namespace Sys2Proof.Machine

variable {s : State} {l m : Link} {tag : Byte} {g : Group}

/-! A change of the holdings table that shows nothing new. -/

theorem not_displaced_of_shown {old new : PerGroup Holding} (same : ∀ g, (new.get g).shown = (old.get g).shown) (e : Entry) :
    displaced old new e = false := by
  refine Bool.eq_false_iff.2 fun goes => ?_
  obtain ⟨g, -, differs, -⟩ := (displaced_iff old new e).1 goes
  exact differs (by rw [Holding.holder_eq_shown, Holding.holder_eq_shown, same])

theorem State.withdraw_none (s : State) : (s.withdraw fun _ => false) = s := by
  simp only [State.withdraw, List.filter_false, List.foldl_nil, Bool.not_false, List.filter_true]
  rfl

/-- Where every holder and kind stays, a change of the table withdraws nothing and is not reported (R94, R121). -/
theorem State.changeHoldings_of_shown {new : PerGroup Holding}
    (same : ∀ g, (new.get g).shown = (s.arbiter.holdings.get g).shown) : s.changeHoldings new = s.setHoldings new := by
  have holder : s.holder .trans = (new.get .trans).holder := by
    rw [State.holder, Holding.holder_eq_shown, Holding.holder_eq_shown, same]
  have moved : s.replaceHoldings new = s.setHoldings new := by
    simp only [State.replaceHoldings, State.moveHoldings, if_pos holder, noEntry, not_displaced_of_shown same, Bool.or_false,
      State.withdraw_none]
  rw [State.changeHoldings, moved]
  exact if_pos ((shown_eq_iff _ _).2 fun g => (same g).symm)

/-- A link that claims what it holds as ACQUIRED sets its mark (R107). -/
theorem State.changeHoldings_own {mark : Bool} (own : s.arbiter.holdings.get g = .acquired l mark) :
    s.changeHoldings (s.arbiter.holdings.set g (.acquired l true)) = s.worked l g := by
  have table : s.arbiter.holdings.set g (.acquired l true) = marked s.arbiter.holdings l g := by
    unfold marked
    cases mark with
    | false => rw [if_pos own]
    | true => rw [if_neg (by simp [own]), PerGroup.set_eq_self _ _ _ own]
  rw [table, State.changeHoldings_of_shown (marked_shown _ l g)]
  rfl

/-! The outcomes (R107). -/

section
variable (change : State → PerGroup Holding → State)

theorem State.carryOutClaim_barred (barred : s.barredFrom l g = true) :
    s.carryOutClaim change l tag g = s.refuse l tag 0x20 .barred (some g) := if_pos barred

theorem State.carryOutClaim_taken {x y : Holding} {outcome : ClaimOutcome} (allowed : s.barredFrom l g = false)
    (held : s.arbiter.holdings.get g = x) (claimed : s.claimed l x = some (y, outcome)) : s.carryOutClaim change l tag g =
      (change s (s.arbiter.holdings.set g y)).answer l tag .claim (Group.code g :: outcome.bytes) := by
  simp only [State.carryOutClaim, allowed, held, claimed, Bool.false_eq_true, if_false]

theorem State.carryOutClaim_denied {x : Holding} (allowed : s.barredFrom l g = false)
    (held : s.arbiter.holdings.get g = x) (claimed : s.claimed l x = none) :
    s.carryOutClaim change l tag g = s.refuse l tag 0x20 .claimDenied (some g) := by
  simp only [State.carryOutClaim, allowed, held, claimed, Bool.false_eq_true, if_false]
  rfl

end

theorem State.claimed_own (s : State) (l : Link) (mark : Bool) :
    s.claimed l (.acquired l mark) = some (.acquired l true, .alreadyHeld) := if_pos rfl

theorem State.claimed_ownStatic (s : State) (l : Link) : s.claimed l (.static l) = some (.static l, .alreadyHeld) := if_pos rfl

theorem State.claimed_otherStatic {h : Link} (other : h ≠ l) : s.claimed l (.static h) = none := if_neg other

theorem State.claimed_lower {h : Link} {mark : Bool} (other : h ≠ l)
    (outranked : (s.arbiter.attributes.get h).rank < (s.arbiter.attributes.get l).rank) :
    s.claimed l (.acquired h mark) = some (.acquired l true, .takenOver h) := (if_neg other).trans (if_pos outranked)

theorem State.claimed_notLower {h : Link} {mark : Bool} (other : h ≠ l)
    (ranks : (s.arbiter.attributes.get l).rank ≤ (s.arbiter.attributes.get h).rank) :
    s.claimed l (.acquired h mark) = none := (if_neg other).trans (if_neg (Nat.not_lt.2 ranks))

/-! A CLAIM alone. -/

/-- The good frame of a CLAIM on a link that serves comes to its group with a reply slot reserved. -/
theorem State.hearClaim_serves (serves : s.Serves l) (change : State → PerGroup Holding → State) (tag : Byte) (g : Group) :
    s.hearClaim change ⟨l, tag, [Group.code g]⟩ = ((s.heard l).reserved l).carryOutClaim change l tag g :=
  State.onGoodFrame_immediate (k := .claim) serves rfl (readOne_groupOf_code g) rfl

theorem exec_claim_alone (serves : s.Serves l) (tag : Byte) (g : Group) : exec (.claim l tag ⟨[Group.code g], []⟩) s =
    .next (((s.heard l).reserved l).carryOutClaim State.changeHoldings l tag g) :=
  congrArg Host.Outcome.next (State.hearClaim_serves serves State.changeHoldings tag g)

section
variable (serves : s.Serves l) (tag : Byte)
include serves

theorem exec_claim_barred (barred : s.barredFrom l g = true) :
    exec (.claim l tag ⟨[Group.code g], []⟩) s = .next ((s.heard l).refused l tag 0x20 .barred (some g)) := by
  have barred : ((s.heard l).reserved l).barredFrom l g = true := barred
  rw [exec_claim_alone serves, State.carryOutClaim_barred _ barred, State.refuse_reserved]

variable (allowed : s.barredFrom l g = false)
include allowed

theorem exec_claim_denied {x : Holding} (held : s.arbiter.holdings.get g = x) (claimed : s.claimed l x = none) :
    exec (.claim l tag ⟨[Group.code g], []⟩) s = .next ((s.heard l).refused l tag 0x20 .claimDenied (some g)) := by
  have allowed : ((s.heard l).reserved l).barredFrom l g = false := allowed
  rw [exec_claim_alone serves, State.carryOutClaim_denied _ allowed held claimed, State.refuse_reserved]

theorem exec_claim_taken {x y : Holding} {outcome : ClaimOutcome} (held : s.arbiter.holdings.get g = x)
    (claimed : s.claimed l x = some (y, outcome)) : exec (.claim l tag ⟨[Group.code g], []⟩) s =
      .next ((((s.heard l).reserved l).changeHoldings (s.arbiter.holdings.set g y)).answer l tag .claim
        (Group.code g :: outcome.bytes)) := by
  have allowed : ((s.heard l).reserved l).barredFrom l g = false := allowed
  rw [exec_claim_alone serves, State.carryOutClaim_taken _ allowed held claimed]
  rfl

theorem exec_claim_own {mark : Bool} (own : s.arbiter.holdings.get g = .acquired l mark) :
    exec (.claim l tag ⟨[Group.code g], []⟩) s = .next (((s.heard l).worked l g).said l (.done tag 0x20 [Group.code g, 1, 0])) := by
  have same : ((s.heard l).reserved l).changeHoldings (s.arbiter.holdings.set g (.acquired l true)) =
      ((s.heard l).worked l g).reserved l := State.changeHoldings_own own
  rw [exec_claim_taken serves tag allowed own (s.claimed_own l mark), same, State.answer_reserved]
  rfl

theorem exec_claim_ownStatic (own : s.arbiter.holdings.get g = .static l) :
    exec (.claim l tag ⟨[Group.code g], []⟩) s = .next ((s.heard l).said l (.done tag 0x20 [Group.code g, 1, 0])) := by
  have same : ((s.heard l).reserved l).changeHoldings s.arbiter.holdings = (s.heard l).reserved l :=
    State.changeHoldings_of_shown fun _ => rfl
  rw [exec_claim_taken serves tag allowed own (s.claimed_ownStatic l), PerGroup.set_eq_self _ _ _ own, same, State.answer_reserved]
  rfl

end

/-! Two CLAIMs together. -/

theorem LinkPort.withdrawn_slotsUsed {p : LinkPort} {es : List Entry}
    (enough : (es.filter fun e => e.link == l).length ≤ p.reserved) : (p.withdrawn l es).slotsUsed = p.slotsUsed := by
  have replies (es : List Entry) :
      waitingReplies (es.map fun e => .refused e.tag e.action.kind.code .withdrawn) = es.length := by
    rw [waitingReplies, List.countP_map]
    exact List.countP_eq_length.2 fun _ _ => rfl
  simp only [LinkPort.slotsUsed, LinkPort.withdrawn, waitingReplies, List.countP_append] at *
  rw [replies]
  omega

section
variable (s) (new : PerGroup Holding)

theorem State.replaceHoldings_arbiter : (s.replaceHoldings new).arbiter = { s.arbiter with holdings := new } :=
  congrArg State.arbiter (s.moveHoldings_eq new noEntry).1

theorem State.replaceHoldings_setup : (s.replaceHoldings new).setup = s.setup := (s.kept_moveHoldings new noEntry).setup

variable {s}

/-- A withdrawal answers in the slots its entries had reserved (R94, R152). -/
theorem State.replaceHoldings_slotsUsed (enough : s.waiting m ≤ (s.links.get m).reserved) :
    ((s.replaceHoldings new).links.get m).slotsUsed = (s.links.get m).slotsUsed := by
  rw [State.replaceHoldings, (s.moveHoldings_eq new noEntry).2 m]
  refine LinkPort.withdrawn_slotsUsed (le_trans ?_ enough)
  rw [← List.countP_eq_length_filter]
  exact List.filter_sublist.countP_le

end

/-- A link other than the one whose CLAIM is taken first still serves after it. -/
theorem State.Serves.afterClaim (serves : s.Serves m) (law : s.LinksLaw) (other : m ≠ l) (new : PerGroup Holding)
    (data : List Byte) : ((((s.heard l).reserved l).replaceHoldings new).answer l tag .claim data).Serves m := by
  obtain ⟨running, enabled, room⟩ := serves
  let t := (s.heard l).reserved l
  have port : t.links.get m = s.links.get m := by
    simp only [t, State.reserved, State.heard, PerLink.get_set_of_ne _ other]
  have enough : t.waiting m ≤ (t.links.get m).reserved := by
    rw [port, law.reserved m]
    exact le_rfl
  refine ⟨?_, ?_, ?_⟩
  · exact (congrArg SetupUnit.phase (t.replaceHoldings_setup new)).trans running
  · exact (congrArg (fun a : Arbiter => (a.attributes.get m).enabled) (t.replaceHoldings_arbiter new)).trans enabled
  · rw [State.answer, State.modifyLink_links, PerLink.modify_eq_set, PerLink.get_set_of_ne _ other,
      State.replaceHoldings_slotsUsed new enough, port]
    exact room

/-- A group that was free and is held is reported (R121). -/
theorem State.reportHoldings_gained {table : PerGroup Holding} {h : Link} (free : table.get g = .free)
    (held : s.arbiter.holdings = table.set g (.acquired h true)) (f : FrameCount) :
    s.reportHoldings table f = s.postReport (.holdings f (.ofFn fun x => ((table.set g (.acquired h true)).get x).shown)) := by
  have differs : ¬ table.map Holding.shown = s.arbiter.holdings.map Holding.shown := fun same => by
    have shown := (shown_eq_iff _ _).1 same g
    rw [held, PerGroup.get_set_self, free] at shown
    exact nomatch shown
  rw [State.reportHoldings, if_neg differs, State.holdingsMessage, held]
  rfl

/-- Settles O47. Of two CLAIMs taken together the lower link's finds the group free, and the other's finds it the lower link's. -/
theorem claims : Obligations.Claims := by
  refine ⟨?alone, ?together⟩
  case alone =>
    intro s l tag g serves c takes denied
    refine ⟨exec_claim_barred serves tag, fun allowed => ⟨fun free => exec_claim_taken serves tag allowed free rfl,
      fun mark => exec_claim_own serves tag allowed, exec_claim_ownStatic serves tag allowed, fun h mark other held => ?_,
      fun h other held => exec_claim_denied serves tag allowed held (State.claimed_otherStatic other)⟩⟩
    exact ⟨fun lower => exec_claim_taken serves tag allowed held (State.claimed_lower other lower),
      fun notLower => exec_claim_denied serves tag allowed held (State.claimed_notLower other notLower)⟩
  case together =>
    intro s l m tag tag' g law lower serves serves' allowed allowed' free ps table told first both
    have other : l ≠ m := fun e => lt_irrefl _ (e ▸ lower)
    have heard : s.hearClaim State.replaceHoldings ⟨l, tag, ps⟩ = first := by
      have allowed : ((s.heard l).reserved l).barredFrom l g = false := allowed
      have free : ((s.heard l).reserved l).arbiter.holdings.get g = .free := free
      exact (State.hearClaim_serves serves _ tag g).trans (State.carryOutClaim_taken _ allowed free rfl)
    let t := (first.heard m).reserved m
    have heard' : first.hearClaim State.replaceHoldings ⟨m, tag', ps⟩ = t.carryOutClaim State.replaceHoldings m tag' g :=
      State.hearClaim_serves (serves'.afterClaim law other.symm _ _) _ tag' g
    have arbiter : t.arbiter = { s.arbiter with holdings := table l } :=
      ((s.heard l).reserved l).replaceHoldings_arbiter (table l)
    have allowed : t.barredFrom m g = false := by rwa [State.barredFrom, arbiter]
    have held : t.arbiter.holdings.get g = .acquired l true := by rw [arbiter]; exact PerGroup.get_set_self ..
    have taken : (t.carryOutClaim State.replaceHoldings m tag' g).reportHoldings s.arbiter.holdings s.reference.frameCount =
        both := by
      by_cases outranked : (s.arbiter.attributes.get l).rank < (s.arbiter.attributes.get m).rank
      · have claimed : t.claimed m (.acquired l true) = some (.acquired m true, .takenOver l) :=
          State.claimed_lower other (by rwa [arbiter])
        have final : t.arbiter.holdings.set g (.acquired m true) = table m := by rw [arbiter]; exact PerGroup.set_set ..
        rw [State.carryOutClaim_taken _ allowed held claimed, final, show both = _ from if_pos outranked]
        refine State.reportHoldings_gained free ?_ _
        exact congrArg Arbiter.holdings (t.replaceHoldings_arbiter (table m))
      · have claimed : t.claimed m (.acquired l true) = none :=
          State.claimed_notLower other (by rw [arbiter]; exact Nat.not_lt.1 outranked)
        rw [State.carryOutClaim_denied _ allowed held claimed, State.refuse_reserved, show both = _ from if_neg outranked]
        refine State.reportHoldings_gained free ?_ _
        exact congrArg Arbiter.holdings arbiter
    rw [← heard', ← heard] at taken
    obtain ⟨listed, reversed⟩ := execClaim_pair ⟨l, tag, ps⟩ ⟨m, tag', ps⟩ s lower
    exact ⟨listed.trans (congrArg Host.Outcome.next taken), reversed.trans (congrArg Host.Outcome.next taken)⟩

end Sys2Proof.Machine
end

section
/-! What a good frame does to the arbiter: nothing, or its request is carried out on it (R88 to R90, R120, R151, R152). -/

namespace Sys2Proof.Machine

variable (s : State) (l : Link)

/-! Work that leaves the arbiter alone. -/

theorem State.postWhere_arbiter (want : Link → Bool) (m : Message) : (s.postWhere want m).arbiter = s.arbiter := by
  rw [State.postWhere_eq]
  rfl

theorem State.reportHoldings_arbiter (old : PerGroup Holding) (f : FrameCount) : (s.reportHoldings old f).arbiter = s.arbiter := by
  rw [(s.reportHoldings_eq old f).1]

theorem State.updateReference_arbiter (u : ReferenceUnit) : (s.updateReference u).arbiter = s.arbiter := by
  unfold State.updateReference
  dsimp only
  split
  · rfl
  · exact State.postWhere_arbiter ..

theorem State.discardFrame_arbiter : (s.discardFrame l).arbiter = s.arbiter := by
  unfold State.discardFrame
  split <;> rfl

theorem State.receiveError_arbiter : (s.receiveError l).arbiter = s.arbiter := by
  unfold State.receiveError
  split
  · rfl
  · exact s.discardFrame_arbiter l

theorem State.setLock_arbiter : s.setLock.arbiter = s.arbiter := by
  unfold State.setLock
  split
  · rfl
  · exact State.postWhere_arbiter ..

/-! The checks. -/

theorem State.onGoodFrame_cases (handle : State → State) :
    (s.onGoodFrame l handle).arbiter = s.arbiter ∨ ∃ u : State, u.arbiter = s.arbiter ∧ s.onGoodFrame l handle = handle u := by
  unfold State.onGoodFrame
  dsimp only
  split_ifs
  · exact .inr ⟨s.modifyLink l LinkPort.goodFrame, rfl, rfl⟩
  · exact .inl rfl
  · exact .inl rfl

theorem State.withReplySlot_cases (handle : State → State) :
    (s.withReplySlot l handle).arbiter = s.arbiter ∨ ∃ u : State, u.arbiter = s.arbiter ∧ s.withReplySlot l handle = handle u := by
  unfold State.withReplySlot
  split
  · exact .inl rfl
  · exact .inr ⟨s.modifyLink l LinkPort.reserve, rfl, rfl⟩

theorem State.refuseUnreserved_arbiter (tag kind : Byte) (reason : Reason) (g : Option Group) :
    (s.refuseUnreserved l tag kind reason g).arbiter = s.arbiter := by
  rcases s.withReplySlot_cases l fun u => u.refuse l tag kind reason g with same | ⟨u, same, whole⟩
  · exact same
  · exact (congrArg State.arbiter whole).trans same

variable {α : Type} (k : Kind) (tag : Byte) (ps : List Byte) (read : List Byte → Option α) (valid : α → State → Bool)

theorem State.immediate_cases (known : Option Group) (run : α → State → State) :
    let t := s.immediate k l tag ps known read valid run
    t.arbiter = s.arbiter ∨ ∃ (a : α) (u : State), read ps = some a ∧ u.arbiter = s.arbiter ∧ t = run a u := by
  intro t
  rcases s.withReplySlot_cases l fun u => u.checked k l tag ps known read valid run with same | ⟨u, same, whole⟩
  · exact .inl same
  rw [show t = _ from whole]
  unfold State.checked
  split
  · split
    · exact .inl same
    · next a values =>
      split
      · exact .inr ⟨a, u, values, same, rfl⟩
      · exact .inl same
  · exact .inl same

theorem State.groupChecked_cases (g : Group) (lockable : Bool) (run : State → State) :
    let t := s.groupChecked k l tag g lockable run
    t.arbiter = s.arbiter ∨ t = run s := by
  unfold State.groupChecked
  split
  · exact .inl rfl
  · split
    · exact .inl rfl
    · exact .inr rfl

theorem State.immediateGroup_cases (g : Group) (lockable : Bool) (run : α → State → State) (data : α → State → List Byte) :
    let t := s.immediateGroup k l tag ps g lockable read valid run data
    t.arbiter = s.arbiter ∨ ∃ (a : α) (u : State), read ps = some a ∧ u.arbiter = s.arbiter ∧
      t = ((run a u).touch l g).answer l tag k (data a u) := by
  intro t
  rcases s.immediate_cases l k tag ps read valid (some g) fun a u =>
    u.groupChecked k l tag g lockable fun u => ((run a u).touch l g).answer l tag k (data a u) with same | ⟨a, u, values, same, whole⟩
  · exact .inl same
  rw [show t = _ from whole]
  rcases u.groupChecked_cases l k tag g lockable fun u => ((run a u).touch l g).answer l tag k (data a u) with idle | done
  · exact .inl (idle.trans same)
  · exact .inr ⟨a, u, values, same, done⟩

/-! Reference pulses. -/

/-- A pulse leaves the arbiter to the boundary it may take (R136 to R139). -/
theorem State.pulse_arbiter (instant : Nat) (signals : PerInput InputSignal) : ∃ u : State, u.arbiter = s.arbiter ∧
    (s.pulse instant signals = u ∨ s.pulse instant signals = u.boundary signals instant) := by
  have moved (u : ReferenceUnit) := s.updateReference_arbiter u
  have waiting : ∃ u : State, u.arbiter = s.arbiter ∧
      (s.pulseWaiting instant signals = u ∨ s.pulseWaiting instant signals = u.boundary signals instant) := by
    unfold State.pulseWaiting
    dsimp only
    split_ifs
    · exact ⟨_, moved _, .inl rfl⟩
    · exact ⟨_, moved _, .inr rfl⟩
    · refine ⟨_, ?_, .inl rfl⟩
      rfl
  have locked (due : Nat) : ∃ u : State, u.arbiter = s.arbiter ∧
      (s.pulseLocked due instant signals = u ∨ s.pulseLocked due instant signals = u.boundary signals instant) := by
    unfold State.pulseLocked
    dsimp only
    split_ifs
    · refine ⟨_, ?_, .inr rfl⟩
      rfl
    · refine ⟨_, ?_, .inl rfl⟩
      rfl
  unfold State.pulse
  dsimp only
  split
  · exact ⟨_, moved _, .inl rfl⟩
  · split
    · split
      · exact ⟨_, moved _, .inl rfl⟩
      · exact ⟨_, moved _, .inl rfl⟩
      · exact waiting
      · exact locked _
    · split
      · exact ⟨_, moved _, .inl rfl⟩
      · exact ⟨_, moved _, .inl rfl⟩
      · exact ⟨_, moved _, .inl rfl⟩
      · exact ⟨s, rfl, .inl rfl⟩

end Sys2Proof.Machine
end

section
/-! STATIC holdings: every command but those that end one keeps them (R104, R113, R114, R116, R119, R123). -/

namespace Sys2Proof.Machine

/-- Every STATIC holding of one state stands in the other. -/
def State.KeepsStatic (s t : State) : Prop :=
  ∀ g h, s.arbiter.holdings.get g = .static h → t.arbiter.holdings.get g = .static h

namespace State.KeepsStatic

theorem of_arbiter {s t : State} (same : t.arbiter = s.arbiter) : s.KeepsStatic t := fun _ _ held => by rwa [same]

theorem refl (s : State) : s.KeepsStatic s := of_arbiter rfl

theorem trans {s t u : State} (a : s.KeepsStatic t) (b : t.KeepsStatic u) : s.KeepsStatic u := fun g h held => b g h (a g h held)

/-- A row of works, each of which keeps the STATIC holdings. -/
theorem foldl {α : Type} {f : State → α → State} (each : ∀ (t : State) a, t.KeepsStatic (f t a)) (s : State) (as : List α) :
    s.KeepsStatic (as.foldl f s) :=
  List.foldlRecOn (motive := s.KeepsStatic) as f (refl s) fun t kept a _ => kept.trans (each t a)

end State.KeepsStatic

variable (s : State)

/-! Changes of the holdings table. -/

theorem State.keepsStatic_moveHoldings {new : PerGroup Holding} (also : Entry → Bool)
    (kept : ∀ g h, s.arbiter.holdings.get g = .static h → new.get g = .static h) : s.KeepsStatic (s.moveHoldings new also) := by
  intro g h held
  rw [(s.moveHoldings_eq new also).1]
  exact kept g h held

theorem State.keepsStatic_changeHoldings {new : PerGroup Holding}
    (kept : ∀ g h, s.arbiter.holdings.get g = .static h → new.get g = .static h) : s.KeepsStatic (s.changeHoldings new) :=
  (s.keepsStatic_moveHoldings noEntry kept).trans (.of_arbiter (State.reportHoldings_arbiter ..))

/-- A mark is set on an ACQUIRED holding alone (R105). -/
theorem State.touch_unacquired {l : Link} {g j : Group} {x : Holding} (held : s.arbiter.holdings.get g = x)
    (unacquired : x.acquiredBy l = false) : (s.touch l j).arbiter.holdings.get g = x := by
  unfold State.touch
  split
  · next own =>
    have other : g ≠ j := by
      rintro rfl
      rw [held, unacquired] at own
      exact nomatch own
    exact (PerGroup.get_set_of_ne _ other _).trans held
  · exact held

theorem State.keepsStatic_touch (l : Link) (j : Group) : s.KeepsStatic (s.touch l j) := fun _ _ held =>
  s.touch_unacquired held rfl

theorem State.keepsStatic_sweepHoldings (f : FrameCount) : s.KeepsStatic (s.sweepHoldings f) := by
  intro g h held
  rw [State.sweepHoldings_arbiter, PerGroup.get_map, held]
  rfl

theorem State.keepsStatic_takeOwedSweep : s.KeepsStatic s.takeOwedSweep := by
  unfold State.takeOwedSweep
  split
  · exact s.keepsStatic_sweepHoldings _
  · exact .refl s

theorem State.keepsStatic_warmRestart : s.KeepsStatic s.warmRestart := by
  intro g h held
  have warm : s.warmRestart.arbiter.holdings = s.arbiter.holdings.map Holding.warm := rfl
  rw [warm, PerGroup.get_map, held]
  rfl

theorem State.keepsStatic_carryOutRelease (l : Link) (tag : Byte) (scope : ReleaseScope) :
    s.KeepsStatic (s.carryOutRelease l tag scope) := by
  unfold State.carryOutRelease
  dsimp only
  split
  · exact .of_arbiter rfl
  · refine .trans (s.keepsStatic_changeHoldings fun g h held => ?_) (.of_arbiter rfl)
    have stays : (s.actualSet l scope).get g = false := by
      rw [State.actualSet, PerGroup.get_ofFn, held]
      exact Bool.and_false _
    rw [freed, PerGroup.get_ofFn, stays]
    exact held

/-- A CLAIM finds a STATIC group its own, or is denied (R107). -/
theorem State.keepsStatic_carryOutClaim {change : State → PerGroup Holding → State}
    (changed : ∀ (u : State) (new : PerGroup Holding),
      (∀ g h, u.arbiter.holdings.get g = .static h → new.get g = .static h) → u.KeepsStatic (change u new))
    (l : Link) (tag : Byte) (g : Group) : s.KeepsStatic (s.carryOutClaim change l tag g) := by
  unfold State.carryOutClaim
  split
  · exact .of_arbiter rfl
  · split
    · exact .of_arbiter rfl
    · next y outcome claimed =>
      refine .trans (changed s _ fun j h held => ?_) (.of_arbiter rfl)
      rw [PerGroup.get_set]
      split
      · next here =>
        rw [← here, held] at claimed
        by_cases own : h = l
        · subst own
          rw [State.claimed_ownStatic] at claimed
          cases claimed
          rfl
        · exact nomatch (State.claimed_otherStatic own).symm.trans claimed
      · exact held

/-- SET LINK frees ACQUIRED holdings alone (R119). -/
theorem State.keepsStatic_changeLink (j : Link) (a : LinkAttributes) : s.KeepsStatic (s.changeLink j a) := by
  obtain ⟨moved, change, whole⟩ := s.changeLink_steps j a
  have kept : s.KeepsStatic moved := by
    intro g h held
    have stays : (s.linkChange j a).frees g = false := by
      show (_ && (s.arbiter.holdings.get g).acquiredBy j) = false
      rw [held]
      exact Bool.and_false _
    rw [change.state]
    dsimp only
    rw [tableWithout_get, stays]
    exact held
  have told := kept.trans (.of_arbiter (moved.reportHoldings_arbiter s.arbiter.holdings s.reference.frameCount))
  rw [whole]
  split
  · refine told.trans fun g h held => ?_
    rw [State.welcome_eq]
    exact held
  · exact told

/-! Requests. -/

section
variable {α : Type} (k : Kind) (l : Link) (tag : Byte) (ps : List Byte) {read : List Byte → Option α} {valid : α → State → Bool}
  {run : α → State → State}

theorem State.keepsStatic_immediate {known : Option Group} (each : ∀ a (u : State), u.KeepsStatic (run a u)) :
    s.KeepsStatic (s.immediate k l tag ps known read valid run) := by
  rcases s.immediate_cases l k tag ps read valid known run with same | ⟨a, u, -, same, whole⟩
  · exact .of_arbiter same
  · exact whole ▸ (State.KeepsStatic.of_arbiter same).trans (each a u)

theorem State.keepsStatic_immediateGroup {g : Group} {lockable : Bool} {data : α → State → List Byte}
    (each : ∀ a (u : State), u.KeepsStatic (run a u)) :
    s.KeepsStatic (s.immediateGroup k l tag ps g lockable read valid run data) := by
  rcases s.immediateGroup_cases l k tag ps read valid g lockable run data with same | ⟨a, u, -, same, whole⟩
  · exact .of_arbiter same
  · refine whole ▸ (State.KeepsStatic.of_arbiter same).trans ((each a u).trans (.trans (State.keepsStatic_touch _ l g) ?_))
    exact .of_arbiter rfl

end

theorem State.keepsStatic_admission (l : Link) (tag : Byte) (a : Action) : s.KeepsStatic (s.admission l tag a) := by
  unfold State.admission
  split
  · exact .of_arbiter rfl
  · split_ifs
    · exact .of_arbiter rfl
    · exact .of_arbiter rfl
    · cases a.group with
      | none => exact .of_arbiter rfl
      | some g => exact .trans (t := s.setQueue (s.queue ++ [⟨l, tag, a⟩])) (.of_arbiter rfl) (State.keepsStatic_touch _ l g)

theorem State.keepsStatic_takeFader (l : Link) (tag : Byte) (ps : List Byte) : s.KeepsStatic (s.takeFader l tag ps) := by
  have refused (reason : Reason) (g : Option Group) : s.KeepsStatic (s.refuseUnreserved l tag Kind.fader.code reason g) :=
    .of_arbiter (s.refuseUnreserved_arbiter ..)
  unfold State.takeFader
  split
  · split
    · exact refused _ _
    · next reading _ =>
      split
      · exact refused _ _
      · split
        · exact refused _ _
        · split
          · exact .trans (t := s.setFader { s.bank.fader with reading := reading, valid := true }) (.of_arbiter rfl)
              (State.keepsStatic_touch _ l .trans)
          · exact refused _ _
  · exact refused _ _

theorem State.keepsStatic_takeWarmReset (l : Link) (tag : Byte) (ps : List Byte) : s.KeepsStatic (s.takeWarmReset l tag ps) := by
  unfold State.takeWarmReset
  split
  · split
    · exact .of_arbiter (s.refuseUnreserved_arbiter ..)
    · exact s.keepsStatic_warmRestart
  · exact .of_arbiter (s.refuseUnreserved_arbiter ..)

/-- The request of any kind but the two that change STATIC holdings. -/
theorem State.keepsStatic_takeKind (l : Link) {k : Kind} (notAssign : k ≠ .assignStatic) (notUnassign : k ≠ .unassignStatic)
    (tag : Byte) (ps : List Byte) : s.KeepsStatic (s.takeKind l k tag ps) := by
  cases k with
  | assignStatic => exact absurd rfl notAssign
  | unassignStatic => exact absurd rfl notUnassign
  | fader => exact s.keepsStatic_takeFader l tag ps
  | warmReset => exact s.keepsStatic_takeWarmReset l tag ps
  | claim =>
    exact s.keepsStatic_immediate _ l tag ps fun g u =>
      u.keepsStatic_carryOutClaim (fun v _ kept => v.keepsStatic_changeHoldings kept) l tag g
  | release =>
    refine s.keepsStatic_immediate _ l tag ps fun (scope, drain) u => ?_
    dsimp only
    split
    · exact u.keepsStatic_admission l tag _
    · exact u.keepsStatic_carryOutRelease l tag scope
  | setLink => exact s.keepsStatic_immediateGroup _ l tag ps fun (j, a) u => u.keepsStatic_changeLink j a
  | lockSetup => exact s.keepsStatic_immediateGroup _ l tag ps fun _ u => .of_arbiter u.setLock_arbiter
  | clearReferenceFlag => exact s.keepsStatic_immediateGroup _ l tag ps fun _ u => .of_arbiter (u.updateReference_arbiter _)
  | store | erase | setRephase | clearLog => exact s.keepsStatic_immediateGroup _ l tag ps fun _ _ => .of_arbiter rfl
  | setAging => exact s.keepsStatic_immediateGroup _ l tag ps fun _ _ _ _ held => held
  | walkHoldings => exact s.keepsStatic_immediate _ l tag ps fun _ _ _ _ held => held
  | queryBank | queryTally | queryStatus | walkMemory | readCounters | readLog =>
    exact s.keepsStatic_immediate _ l tag ps fun _ _ => .of_arbiter rfl
  | select | matte | nextSet | transitionSetup | faderSetup | auto | cut | keyOrder | keySelect | keySetup | keyMask | keyCut
  | recallEffects | setFormat | setOutputRange =>
    exact s.keepsStatic_immediate _ l tag ps (valid := anyValue) fun a u => u.keepsStatic_admission l tag a

theorem State.keepsStatic_onGoodFrame (l : Link) {handle : State → State} (each : ∀ u : State, u.KeepsStatic (handle u)) :
    s.KeepsStatic (s.onGoodFrame l handle) := by
  rcases s.onGoodFrame_cases l handle with same | ⟨u, same, whole⟩
  · exact .of_arbiter same
  · exact whole ▸ (State.KeepsStatic.of_arbiter same).trans (each u)

/-- No kind that waits in the Action Queue changes a STATIC holding at its arrival. -/
theorem State.keepsStatic_hearFrame (f : RequestFrame) : s.KeepsStatic (s.hearFrame f) := by
  unfold State.hearFrame
  split
  · next k _ =>
    split
    · next waits =>
      refine s.keepsStatic_onGoodFrame f.link fun u => u.keepsStatic_takeKind f.link ?_ ?_ f.tag f.bytes <;> rintro rfl <;>
        exact nomatch waits
    · exact .refl s
  · exact .refl s

theorem exec_request_keepsStatic {c : Instr} {r : Kind × Link × Byte × Params} (asked : requestOf c = some r)
    (notAssign : r.1 ≠ .assignStatic) (notUnassign : r.1 ≠ .unassignStatic) {t : State} (e : exec c s = .next t) :
    s.KeepsStatic t := by
  obtain ⟨k, l, tag, params⟩ := r
  rw [exec_requestOf s asked] at e
  obtain rfl := Host.Outcome.next.inj e
  have row (u : State) (frames : List RequestFrame) := State.KeepsStatic.foldl State.keepsStatic_hearFrame u frames
  exact (row _ _).trans ((State.keepsStatic_onGoodFrame _ l fun u => u.keepsStatic_takeKind l notAssign notUnassign tag _).trans
    (row _ _))

theorem exec_claim_keepsStatic {l : Link} {tag : Byte} {params : ClaimParams} {t : State}
    (e : exec (.claim l tag params) s = .next t) : s.KeepsStatic t := by
  obtain rfl := Host.Outcome.next.inj e
  split
  · exact s.keepsStatic_onGoodFrame l fun u => u.keepsStatic_takeKind l (k := .claim) nofun nofun tag _
  · refine (State.KeepsStatic.foldl (fun u f => ?_) s _).trans (.of_arbiter (State.reportHoldings_arbiter ..))
    refine u.keepsStatic_onGoodFrame f.link fun v => v.keepsStatic_immediate _ f.link f.tag f.bytes fun g w => ?_
    exact w.keepsStatic_carryOutClaim (fun x _ kept => x.keepsStatic_moveHoldings noEntry kept) f.link f.tag g

/-! Boundaries. -/

theorem State.keepsStatic_applyEntry (signals : PerInput InputSignal) (e : Entry) : s.KeepsStatic (s.applyEntry signals e) := by
  by_cases release : ∃ scope, e.action = .release scope
  · obtain ⟨scope, action⟩ := release
    have whole : s.applyEntry signals e = s.carryOutRelease e.link e.tag scope := by simp only [State.applyEntry, action]; rfl
    exact whole ▸ s.keepsStatic_carryOutRelease _ _ _
  · exact .of_arbiter (State.applyEntry_grounded signals e (not_exists.1 release)).1

theorem Arbiter.countBoundary_holdings (a : Arbiter) : a.countBoundary.holdings = a.holdings := by
  unfold Arbiter.countBoundary
  split_ifs <;> rfl

theorem State.keepsStatic_boundary (signals : PerInput InputSignal) (instant : Nat) :
    s.KeepsStatic (s.boundary signals instant) := by
  have opened : s.KeepsStatic (s.takeOwedSweep.openBoundary signals instant) := fun g h held => by
    have counted := s.takeOwedSweep.arbiter.countBoundary_holdings
    exact (congrArg (PerGroup.get · g) counted).trans (s.keepsStatic_takeOwedSweep g h held)
  have applied : s.KeepsStatic (s.applied signals instant) := by
    refine State.applyRounds_keeps (P := s.KeepsStatic) (fun t e rest _ kept => ?_) _ _ opened
    exact kept.trans (.trans (t := t.setQueue rest) (.of_arbiter rfl) (State.keepsStatic_applyEntry _ signals e))
  rw [s.boundary_eq signals instant]
  exact applied

theorem State.keepsStatic_pulse (instant : Nat) (signals : PerInput InputSignal) : s.KeepsStatic (s.pulse instant signals) := by
  obtain ⟨u, same, whole | whole⟩ := s.pulse_arbiter instant signals
  · exact whole ▸ .of_arbiter same
  · exact whole ▸ (State.KeepsStatic.of_arbiter same).trans (u.keepsStatic_boundary signals instant)

theorem exec_sweep_keepsStatic {t : State} (e : exec .sweep s = .next t) : s.KeepsStatic t := by
  obtain rfl := Host.Outcome.next.inj e
  split
  · exact s.keepsStatic_takeOwedSweep
  · exact .refl s
  · split
    · exact s.keepsStatic_sweepHoldings _
    · exact .refl s

end Sys2Proof.Machine
end

section
/-! How a STATIC holding ends (R104, R113, R114, R149, R150). -/

namespace Sys2Proof.Machine

/-! The codes of a request determine what it reads. -/

theorem Kind.eq_code {b : Byte} {k : Kind} (h : Kind.ofCode b = some k) : b = k.code := by
  unfold Kind.ofCode at h
  split at h <;> cases h <;> exact BitVec.eq_of_toNat_eq ‹_›

theorem groupOf_eq_some {b : Byte} {g : Group} (h : groupOf b = some g) : b = Group.code g := by
  unfold groupOf at h
  split at h <;> cases h <;> exact BitVec.eq_of_toNat_eq ‹_›

theorem linkOf_eq_some {b : Byte} {l : Link} (h : linkOf b = some l) : b = Link.code l := by
  unfold linkOf at h
  split at h <;> cases h <;> exact BitVec.eq_of_toNat_eq ‹_›

theorem readOne_groupOf_eq_some {ps : List Byte} {g : Group} (h : readOne groupOf ps = some g) : ps = [Group.code g] := by
  unfold readOne at h
  split at h
  · rw [groupOf_eq_some h]
  · exact nomatch h

theorem readAssignStatic_eq_some {ps : List Byte} {g : Group} {j : Link} (h : readAssignStatic ps = some (g, j)) :
    ps = [Group.code g, Link.code j] := by
  unfold readAssignStatic at h
  split at h
  · simp only [Option.bind_eq_bind, Option.bind_eq_some_iff] at h
    obtain ⟨_, group, _, link, e⟩ := h
    cases e
    rw [groupOf_eq_some group, linkOf_eq_some link]
  · exact nomatch h

/-! What a request leaves of a STATIC holding. -/

/-- A request of the kind with the parameters has ended the STATIC holding of the link in the group (R113, R114). -/
def State.StaticEnded (t : State) (g : Group) (h : Link) (kind : Byte) (ps : List Byte) : Prop :=
  (kind = 0x36 ∧ ps = [Group.code g] ∧ t.arbiter.holdings.get g = .free) ∨
  (kind = 0x35 ∧ ∃ j, j ≠ h ∧ ps = [Group.code g, Link.code j] ∧ t.arbiter.holdings.get g = .static j)

/-- Every STATIC holding stands, or such a request has ended it. -/
def State.StaticOutcome (s t : State) (kind : Byte) (ps : List Byte) : Prop :=
  ∀ g h, s.arbiter.holdings.get g = .static h → t.arbiter.holdings.get g = .static h ∨ t.StaticEnded g h kind ps

variable {s t : State} {l : Link} {tag kind : Byte} {ps : List Byte}

theorem State.KeepsStatic.outcome (kept : s.KeepsStatic t) : s.StaticOutcome t kind ps := fun g h held => .inl (kept g h held)

theorem State.StaticOutcome.after {u : State} (same : u.arbiter = s.arbiter) (outcome : u.StaticOutcome t kind ps) :
    s.StaticOutcome t kind ps := fun g h held => outcome g h (by rwa [same])

variable (s l tag ps)

theorem State.changeHoldings_holdings (new : PerGroup Holding) : (s.changeHoldings new).arbiter.holdings = new := by
  rw [State.changeHoldings, State.reportHoldings_arbiter, State.replaceHoldings_arbiter]

/-- A group given as STATIC, or freed from a STATIC holding: the others stay. -/
theorem State.changed_static {x : Holding} (unacquired : x.acquiredBy l = false) (g j : Group) :
    ((s.changeHoldings (s.arbiter.holdings.set j x)).touch l .setup).arbiter.holdings.get j = x ∧
    (g ≠ j → ∀ h, s.arbiter.holdings.get g = .static h →
      ((s.changeHoldings (s.arbiter.holdings.set j x)).touch l .setup).arbiter.holdings.get g = .static h) := by
  refine ⟨State.touch_unacquired _ ?_ unacquired, fun other h held => State.touch_unacquired _ ?_ rfl⟩
  · rw [State.changeHoldings_holdings, PerGroup.get_set_self]
  · rw [State.changeHoldings_holdings, PerGroup.get_set_of_ne _ other, held]

theorem State.takeAssignStatic_outcome : s.StaticOutcome (s.takeAssignStatic l tag ps) 0x35 ps := by
  rcases s.immediateGroup_cases l .assignStatic tag ps readAssignStatic assignable .setup true
    (fun (g, h) s => s.changeHoldings (s.arbiter.holdings.set g (.static h))) (fun (g, h) _ => [Group.code g, Link.code h])
    with same | ⟨⟨j, i⟩, u, values, same, whole⟩
  · exact (State.KeepsStatic.of_arbiter same).outcome
  · refine .after same fun g h held => ?_
    obtain ⟨given, others⟩ := u.changed_static l (x := .static i) rfl g j
    rw [show s.takeAssignStatic l tag ps = _ from whole]
    by_cases here : g = j
    · subst here
      by_cases own : i = h
      · exact .inl (own ▸ given)
      · exact .inr (.inr ⟨rfl, i, own, readAssignStatic_eq_some values, given⟩)
    · exact .inl (others here h held)

theorem State.carryOutUnassign_outcome (j : Group) : s.StaticOutcome (s.carryOutUnassign l tag j) 0x36 [Group.code j] := by
  unfold State.carryOutUnassign
  split
  · intro g h held
    obtain ⟨freed, others⟩ := s.changed_static l (x := .free) rfl g j
    by_cases here : g = j
    · subst here
      exact .inr (.inl ⟨rfl, rfl, freed⟩)
    · exact .inl (others here h held)
  · exact (State.KeepsStatic.of_arbiter rfl).outcome
  · exact (State.KeepsStatic.of_arbiter rfl).outcome

theorem State.takeUnassignStatic_outcome : s.StaticOutcome (s.takeUnassignStatic l tag ps) 0x36 ps := by
  rcases s.immediate_cases l .unassignStatic tag ps (readOne groupOf) anyValue (some .setup)
    (fun g u => u.groupChecked .unassignStatic l tag .setup true fun u => u.carryOutUnassign l tag g)
    with same | ⟨j, u, values, same, whole⟩
  · exact (State.KeepsStatic.of_arbiter same).outcome
  · refine .after same ?_
    rw [show s.takeUnassignStatic l tag ps = _ from whole]
    rcases u.groupChecked_cases l .unassignStatic tag .setup true (fun u => u.carryOutUnassign l tag j) with idle | done
    · exact (State.KeepsStatic.of_arbiter idle).outcome
    · rw [done, readOne_groupOf_eq_some values]
      exact u.carryOutUnassign_outcome l tag j

theorem State.takeKind_outcome (k : Kind) : s.StaticOutcome (s.takeKind l k tag ps) k.code ps := by
  by_cases assign : k = .assignStatic
  · exact assign ▸ s.takeAssignStatic_outcome l tag ps
  by_cases unassign : k = .unassignStatic
  · exact unassign ▸ s.takeUnassignStatic_outcome l tag ps
  · exact (s.keepsStatic_takeKind l assign unassign tag ps).outcome

theorem State.takeRequest_outcome (kind : Byte) : s.StaticOutcome (s.takeRequest l kind tag ps) kind ps := by
  unfold State.takeRequest
  split
  · exact (State.KeepsStatic.of_arbiter (s.refuseUnreserved_arbiter ..)).outcome
  · next k defined => exact Kind.eq_code defined ▸ s.takeKind_outcome l tag ps k

theorem State.onGoodFrame_outcome {handle : State → State} (each : ∀ u : State, u.StaticOutcome (handle u) kind ps) :
    s.StaticOutcome (s.onGoodFrame l handle) kind ps := by
  rcases s.onGoodFrame_cases l handle with same | ⟨u, same, whole⟩
  · exact (State.KeepsStatic.of_arbiter same).outcome
  · exact whole ▸ (each u).after same

theorem State.takeBody_outcome (kind : Byte) : s.StaticOutcome (s.takeBody l (kind :: tag :: ps)) kind ps :=
  s.onGoodFrame_outcome l ps fun u => u.takeRequest_outcome l tag ps kind

/-- A byte that ends a good frame brings its request; any other keeps the STATIC holdings (R150). -/
theorem State.receiveByte_outcome (b : Byte) : s.KeepsStatic (s.receiveByte l b) ∨
    ∃ n kind tag ps, (s.links.get l).receiver = .check n (kind :: tag :: ps) ∧ s.StaticOutcome (s.receiveByte l b) kind ps := by
  have discarded : s.KeepsStatic (s.discardFrame l) := .of_arbiter (s.discardFrame_arbiter l)
  unfold State.receiveByte
  split
  · split <;> exact .inl (.of_arbiter rfl)
  · split
    · exact .inl (.of_arbiter rfl)
    · exact .inl discarded
  · exact .inl (.of_arbiter rfl)
  · next n got receiver =>
    split
    · match got with
      | kind :: tag :: ps => exact .inr ⟨n, kind, tag, ps, receiver, s.takeBody_outcome l tag ps kind⟩
      | [_] | [] => exact .inl (s.keepsStatic_onGoodFrame l fun u => .refl u)
    · exact .inl discarded

variable {l tag ps}

/-- The command carries a frame of the kind with the parameters (R149, R150, log 30). -/
def CarriesFrame (c : Instr) (s : State) (kind : Byte) (ps : List Byte) : Prop :=
  (∃ l tag, c = .unassignStatic l tag ps ∧ kind = 0x36) ∨
  (∃ l tag, c = .assignStatic l tag ps ∧ kind = 0x35) ∨
  (∃ l tag, c = .undefinedKind l kind tag ps ∨ c = .disabledLinkFrame l kind tag ps) ∨
  (∃ l b n tag, c = .byteReceived l b true ∧ (s.links.get l).receiver = .check n (kind :: tag :: ps))

/-- Every command but a cold reset keeps the STATIC holdings, or carries a frame whose request may end one. -/
theorem exec_keepsStatic_or_carries {c : Instr} {t : State} (e : exec c s = .next t) (notCold : c ≠ .coldResetAsserted) :
    s.KeepsStatic t ∨ ∃ kind ps, CarriesFrame c s kind ps ∧ s.StaticOutcome t kind ps := by
  cases c with
  | coldResetAsserted => exact absurd rfl notCold
  | assignStatic l tag ps =>
    obtain rfl := Host.Outcome.next.inj e
    exact .inr ⟨0x35, ps, .inr (.inl ⟨l, tag, rfl, rfl⟩), s.onGoodFrame_outcome l ps fun u => u.takeAssignStatic_outcome l tag ps⟩
  | unassignStatic l tag ps =>
    obtain rfl := Host.Outcome.next.inj e
    exact .inr ⟨0x36, ps, .inl ⟨l, tag, rfl, rfl⟩, s.onGoodFrame_outcome l ps fun u => u.takeUnassignStatic_outcome l tag ps⟩
  | undefinedKind l kind tag ps =>
    obtain rfl := Host.Outcome.next.inj e
    exact .inr ⟨kind, ps, .inr (.inr (.inl ⟨l, tag, .inl rfl⟩)), s.takeBody_outcome l tag ps kind⟩
  | disabledLinkFrame l kind tag ps =>
    obtain rfl := Host.Outcome.next.inj e
    exact .inr ⟨kind, ps, .inr (.inr (.inl ⟨l, tag, .inr rfl⟩)), s.takeBody_outcome l tag ps kind⟩
  | byteReceived l b stopValid =>
    obtain rfl := Host.Outcome.next.inj e
    split
    · cases stopValid with
      | true =>
        rcases s.receiveByte_outcome l b with kept | ⟨n, kind, tag, ps, receiver, outcome⟩
        · exact .inl kept
        · exact .inr ⟨kind, ps, .inr (.inr (.inr ⟨l, b, n, tag, rfl, receiver⟩)), outcome⟩
      | false => exact .inl (.of_arbiter (s.receiveError_arbiter l))
    · exact .inl (.refl s)
  | frameBoundary signals =>
    obtain rfl := Host.Outcome.next.inj e
    split
    · exact .inl (.refl s)
    · exact .inl (s.keepsStatic_boundary _ _)
  | referencePulse instant signals =>
    obtain rfl := Host.Outcome.next.inj e
    split
    · exact .inl (.refl s)
    · exact .inl (s.keepsStatic_pulse _ _)
  | sweep => exact .inl (exec_sweep_keepsStatic s e)
  | claim l tag params => exact .inl (exec_claim_keepsStatic s e)
  | missingPulse =>
    obtain rfl := Host.Outcome.next.inj e
    split
    · exact .inl (.refl s)
    · split
      · exact .inl (.refl s)
      · exact .inl (.of_arbiter (s.updateReference_arbiter _))
  | frameDiscarded l cause => exact .inl (Host.Outcome.next.inj e ▸ .of_arbiter (s.discardFrame_arbiter l))
  | byteGapExpiry l => exact .inl (Host.Outcome.next.inj e ▸ .of_arbiter (s.receiveError_arbiter l))
  | signalLoss | coldResetReleased =>
    obtain rfl := Host.Outcome.next.inj e
    split <;> exact .inl (.of_arbiter rfl)
  | warmResetAsserted =>
    obtain rfl := Host.Outcome.next.inj e
    split
    · exact .inl (.of_arbiter rfl)
    · exact .inl s.keepsStatic_warmRestart
  | transmissionBegins | transmissionEnds | warmResetReleased => exact .inl (Host.Outcome.next.inj e ▸ .of_arbiter rfl)
  | _ => refine .inl (exec_request_keepsStatic s rfl ?_ ?_ e) <;> nofun

/-- Settles O13: past a cold reset, what a command does to a STATIC holding is what the frame it carries does. -/
theorem staticHoldingsEnd : Obligations.StaticHoldingsEnd := by
  intro c s t g h e static gone ends
  by_cases cold : c = .coldResetAsserted
  · exact .inl cold
  rcases exec_keepsStatic_or_carries s e cold with kept | ⟨kind, ps, carries, outcome⟩
  · exact absurd (kept g h static) gone
  have ended : ends kind ps := (outcome g h static).resolve_left gone
  rcases carries with ⟨l, tag, rfl, rfl⟩ | ⟨l, tag, rfl, rfl⟩ | ⟨l, tag, frame⟩ | ⟨l, b, n, tag, rfl, receiver⟩
  · exact .inr (.inl ⟨l, tag, ps, rfl, ended⟩)
  · exact .inr (.inr (.inl ⟨l, tag, ps, rfl, ended⟩))
  · exact .inr (.inr (.inr (.inl ⟨l, kind, tag, ps, frame, ended⟩)))
  · exact .inr (.inr (.inr (.inr ⟨l, b, n, kind, tag, ps, rfl, receiver, ended⟩)))

end Sys2Proof.Machine
end

section
/-! RECALL, and what STORE and RECALL do together (R126, R129, R130). -/

namespace Sys2Proof.Machine

/-! Empty part sets and empty registers (R124). -/

theorem PartSet.isEmpty_iff (p : PartSet) :
    p.isEmpty = true ↔ p.bkgd = false ∧ p.trans = false ∧ ∀ k, p.keys.get k = false := by
  simp [PartSet.isEmpty, Keyer.mem_all, and_assoc]

theorem Effects.parts_keys (e : Effects) (k : Keyer) : e.parts.keys.get k = (e.keys.get k).isSome := PerKeyer.get_map _ _ k

theorem Effects.isEmpty_iff (e : Effects) : e.isEmpty = true ↔ e = emptyEffects := by
  constructor
  · intro empty
    obtain ⟨bkgd, trans, keys⟩ := (PartSet.isEmpty_iff _).1 empty
    have noKeys : e.keys = .const none := PerKeyer.ext_get fun k => by simpa [Effects.parts_keys] using keys k
    have noBkgd : e.bkgd = none := by simpa [Effects.parts] using bkgd
    have noTrans : e.trans = none := by simpa [Effects.parts] using trans
    exact Effects.mk.injEq .. |>.mpr ⟨noBkgd, noTrans, noKeys⟩
  · rintro rfl
    rfl

/-! The bank a RECALL sets, field by field (R130). -/

/-- The parts of a register that lie within a scope. -/
def Effects.within (e : Effects) (scope : PartSet) : Effects where
  bkgd := if scope.bkgd then e.bkgd else none
  trans := if scope.trans then e.trans else none
  keys := .ofFn fun k => if scope.keys.get k then e.keys.get k else none

/-- Every part present takes the place of the bank's own items, masks clamped to the picture. -/
def Bank.overlay (b : Bank) (f : Format) (e : Effects) : Bank :=
  { b with
    a := e.bkgd.elim b.a BkgdPart.a
    b := e.bkgd.elim b.b BkgdPart.b
    nextSet := e.trans.elim b.nextSet TransPart.nextSet
    setup := e.trans.elim b.setup TransPart.setup
    stack := e.trans.elim b.stack TransPart.stack
    settings := .ofFn fun k => (e.keys.get k).elim (b.settings.get k) fun p => clampMask f p.settings
    fill := .ofFn fun k => (e.keys.get k).elim (b.fill.get k) KeyPart.fill
    source := .ofFn fun k => (e.keys.get k).elim (b.source.get k) KeyPart.source
    onAir := .ofFn fun k => (e.keys.get k).elim (b.onAir.get k) KeyPart.onAir }

theorem Bank.recallBkgd_eq (b : Bank) (on : Bool) (p : Option BkgdPart) :
    let given := if on then p else none
    b.recallBkgd on p = { b with a := given.elim b.a BkgdPart.a, b := given.elim b.b BkgdPart.b } := by
  cases p <;> cases on <;> rfl

theorem Bank.recallTrans_eq (b : Bank) (on : Bool) (p : Option TransPart) :
    let given := if on then p else none
    b.recallTrans on p = { b with
      nextSet := given.elim b.nextSet TransPart.nextSet, setup := given.elim b.setup TransPart.setup
      stack := given.elim b.stack TransPart.stack } := by
  cases p <;> cases on <;> rfl

theorem Bank.recallKey_eq (b : Bank) (f : Format) (k : Keyer) (on : Bool) (p : Option KeyPart) :
    let given := if on then p else none
    b.recallKey f k on p = { b with
      settings := b.settings.set k (given.elim (b.settings.get k) fun p => clampMask f p.settings)
      fill := b.fill.set k (given.elim (b.fill.get k) KeyPart.fill)
      source := b.source.set k (given.elim (b.source.get k) KeyPart.source)
      onAir := b.onAir.set k (given.elim (b.onAir.get k) KeyPart.onAir) } := by
  have unchanged : b = { b with
      settings := b.settings.set k (b.settings.get k), fill := b.fill.set k (b.fill.get k)
      source := b.source.set k (b.source.get k), onAir := b.onAir.set k (b.onAir.get k) } := by
    simp only [PerKeyer.set_eq_self _ _ _ rfl]
  cases p with
  | none => cases on <;> exact unchanged
  | some p =>
    cases on
    · exact unchanged
    · rfl

/-- Each keyer is set in its own cells, so the order of the four does not show. -/
theorem Bank.recall_eq (b : Bank) (f : Format) (scope : PartSet) (e : Effects) :
    b.recall f scope e = b.overlay f (e.within scope) := by
  simp only [Bank.recall, Keyer.all, List.foldl, Bank.recallKey_eq, Bank.recallTrans_eq, Bank.recallBkgd_eq]
  rfl

/-! RECALL of what STORE captured. -/

theorem clampMask_of_inPicture {f : Format} {k : KeySettings} (h : k.InPicture f) : clampMask f k = k := by
  obtain ⟨left, right, top, bottom⟩ := h
  simp only [clampMask, Nat.min_eq_left (Nat.le_sub_one_of_lt left), Nat.min_eq_left (Nat.le_sub_one_of_lt right),
    Nat.min_eq_left (Nat.le_sub_one_of_lt top), Nat.min_eq_left (Nat.le_sub_one_of_lt bottom)]

/-- Every part of a register. -/
def PartSet.every : PartSet := { bkgd := true, trans := true, keys := .const true }

theorem Effects.within_every (e : Effects) : e.within .every = e := rfl

theorem Bank.capture_every_keys (b : Bank) (k : Keyer) : (b.capture .every).keys.get k =
    some { settings := b.settings.get k, fill := b.fill.get k, source := b.source.get k, onAir := b.onAir.get k } := by
  simp [Bank.capture, PartSet.every]

/-- The masks of a lawful bank lie inside the picture, so that the clamp of R130 leaves them. -/
theorem Bank.overlay_capture_every {before : Bank} {f : Format} (lawful : before.Lawful f) (now : Bank) :
    now.overlay f (before.capture .every) = { before with
      matte := now.matte, state := now.state, position := now.position, count := now.count, fader := now.fader } := by
  have settings : (now.overlay f (before.capture .every)).settings = before.settings := PerKeyer.ext_get fun k => by
    simp only [Bank.overlay, PerKeyer.get_ofFn, before.capture_every_keys k]
    exact clampMask_of_inPicture (lawful.masks k)
  calc now.overlay f (before.capture .every)
      = { before with
          settings := (now.overlay f (before.capture .every)).settings
          matte := now.matte, state := now.state, position := now.position, count := now.count, fader := now.fader } := rfl
    _ = _ := by rw [settings]

/-- Settles O45. -/
theorem recallRestores : Obligations.RecallRestores := by
  intro before now f every lawful
  calc now.recall f .every (before.capture .every)
      = now.overlay f (before.capture .every) := by rw [Bank.recall_eq, Effects.within_every]
    _ = _ := Bank.overlay_capture_every lawful now

/-! RECALL at its boundary. -/

variable (s : State)

theorem State.permitted_eq (l : Link) (g : Group) :
    s.permitted l g = decide (s.barredFrom l g = false ∧ (s.holder g = none ∨ s.holder g = some l)) := by
  rw [Bool.eq_iff_iff]
  simp [State.permitted]

theorem State.applyRecall_eq (e : Entry) (r : Register) (asked : PartSet) :
    let held := s.memory.registers.get r
    let scope := s.actualScope e.link r asked
    s.applyRecall e r asked =
      if held.isEmpty then s.turnedDown e .empty
      else if s.bank.running then s.turnedDown e .transitionActive
      else if scope.isEmpty then s.turnedDown e .empty
      else State.carriedOut { s with bank := s.bank.overlay s.reference.format (held.within scope) } e
        (Register.code r :: scope.bytes) := by
  intro held scope
  rw [← Bank.recall_eq]
  rfl

/-- No scope of an empty register holds a part (R129). -/
theorem State.actualScope_isEmpty {l : Link} {r : Register} {asked : PartSet} (h : (s.memory.registers.get r).isEmpty = true) :
    (s.actualScope l r asked).isEmpty = true := by
  obtain ⟨bkgd, trans, keys⟩ := (PartSet.isEmpty_iff _).1 h
  rw [PartSet.isEmpty_iff]
  simp [State.actualScope, bkgd, trans, keys]

/-- In IDLE the scope alone decides, since an empty register is answered as an empty scope is. -/
theorem State.applyRecall_idle (idle : s.bank.state = .idle) (e : Entry) (r : Register) (asked : PartSet) :
    let scope := s.actualScope e.link r asked
    s.applyRecall e r asked =
      if scope.isEmpty then s.turnedDown e .empty
      else State.carriedOut
        { s with bank := s.bank.overlay s.reference.format ((s.memory.registers.get r).within scope) } e
        (Register.code r :: scope.bytes) := by
  intro scope
  rw [s.applyRecall_eq, if_neg (by simp [Bank.running_idle idle] : ¬ s.bank.running = true)]
  split
  · next bare => rw [if_pos (s.actualScope_isEmpty bare)]
  · rfl

/-- Settles O33: in IDLE the bank takes the parts of the register that lie within the actual scope. -/
theorem recallApplied : Obligations.RecallApplied := by
  intro s sig l tag r asked e held may bkgd trans key w h
  have scope : s.actualScope l r asked = { bkgd := bkgd, trans := trans, keys := .ofFn key } := by
    simp only [State.actualScope, Effects.parts_keys, s.permitted_eq]
    rfl
  have empty_iff : (s.actualScope l r asked).isEmpty = true ↔ bkgd = false ∧ trans = false ∧ ∀ k, key k = false := by
    simp only [scope, PartSet.isEmpty_iff, PerKeyer.get_ofFn]
  refine ⟨fun bare => ?_, fun stored running => ?_, fun idle bkgdOff transOff keysOff => ?_, fun idle present => ?_⟩
  · exact (s.applyRecall_eq e r asked).trans (if_pos (held.isEmpty_iff.2 bare))
  · exact (s.applyRecall_eq e r asked).trans
      ((if_neg fun bare => stored (held.isEmpty_iff.1 bare)).trans (if_pos (s.bank.running_iff.2 running)))
  · exact (s.applyRecall_idle idle e r asked).trans (if_pos (empty_iff.2 ⟨bkgdOff, transOff, keysOff⟩))
  · have carried : ¬ (s.actualScope l r asked).isEmpty = true := fun empty => by
      obtain ⟨bkgdOff, transOff, keysOff⟩ := empty_iff.1 empty
      simp [bkgdOff, transOff, keysOff] at present
    refine ⟨s.bank.overlay s.reference.format (held.within (s.actualScope l r asked)),
      (s.applyRecall_idle idle e r asked).trans ((if_neg carried).trans ?_), rfl, ?_⟩
    · exact congrArg (fun p : PartSet => State.carriedOut _ e (Register.code r :: p.bytes)) scope
    rw [scope]
    refine ⟨fun p given on => ?_, fun off => ?_, fun p given on => ?_, fun off => ?_, fun k p given on => ?_, fun k off => ?_⟩
    · simp [Bank.overlay, Effects.within, given, on]
    · simp [Bank.overlay, Effects.within, off]
    · simp [Bank.overlay, Effects.within, given, on]
    · simp [Bank.overlay, Effects.within, off]
    · simp [Bank.overlay, Effects.within, given, on, clampMask, w, h]
    · simp [Bank.overlay, Effects.within, off]

end Sys2Proof.Machine
end

section
/-! The counts and the expected time of the reference unit: no request touches them, and every step keeps them to the unit's state
(R135 to R142). -/

namespace Sys2Proof.Machine

/-- Of the reference unit no more than the event flag and the policy may differ (R140, R141). -/
def State.KeepsUnit (s t : State) : Prop :=
  t.reference = { s.reference with eventFlag := t.reference.eventFlag, policy := t.reference.policy }

namespace State.KeepsUnit

theorem of_reference {s t : State} (same : t.reference = s.reference) : s.KeepsUnit t := by rw [State.KeepsUnit, same]

theorem refl (s : State) : s.KeepsUnit s := of_reference rfl

theorem trans {s t u : State} (a : s.KeepsUnit t) (b : t.KeepsUnit u) : s.KeepsUnit u := by
  rw [State.KeepsUnit, b, a]

/-- A row of works, each of which keeps the unit. -/
theorem foldl {α : Type} {f : State → α → State} (each : ∀ (t : State) a, t.KeepsUnit (f t a)) (s : State) (as : List α) :
    s.KeepsUnit (as.foldl f s) :=
  List.foldlRecOn (motive := s.KeepsUnit) as f (refl s) fun t kept a _ => kept.trans (each t a)

/-- The law of the unit reads neither the event flag nor the policy. -/
theorem lawful {s t : State} (kept : s.KeepsUnit t) (h : s.reference.Lawful) : t.reference.Lawful := by
  rw [kept]
  exact h

end State.KeepsUnit

variable (s : State)

/-! Reports, moves of the holdings table, and a change of the unit itself. -/

theorem State.postWhere_reference (want : Link → Bool) (m : Message) : (s.postWhere want m).reference = s.reference := by
  rw [State.postWhere_eq]
  rfl

theorem State.updateReference_reference (u : ReferenceUnit) : (s.updateReference u).reference = u := by
  unfold State.updateReference
  dsimp only
  split
  · rfl
  · exact State.postWhere_reference ..

theorem State.reportHoldings_reference (old : PerGroup Holding) (f : FrameCount) :
    (s.reportHoldings old f).reference = s.reference := by
  rw [(s.reportHoldings_eq old f).1]

theorem State.moveHoldings_reference (new : PerGroup Holding) (also : Entry → Bool) :
    (s.moveHoldings new also).reference = s.reference := by
  rw [(s.moveHoldings_eq new also).1]

theorem State.keepsUnit_changeHoldings (new : PerGroup Holding) : s.KeepsUnit (s.changeHoldings new) :=
  .of_reference (s.changeHoldings_ports new).2

theorem State.keepsUnit_sweepHoldings (f : FrameCount) : s.KeepsUnit (s.sweepHoldings f) :=
  .of_reference ((State.reportHoldings_reference ..).trans (s.moveHoldings_reference ..))

/-! The checks. -/

theorem State.keepsUnit_touch (l : Link) (g : Group) : s.KeepsUnit (s.touch l g) := by
  unfold State.touch
  split <;> exact .of_reference rfl

theorem State.keepsUnit_onGoodFrame (l : Link) {handle : State → State} (each : ∀ t : State, t.KeepsUnit (handle t)) :
    s.KeepsUnit (s.onGoodFrame l handle) := by
  have counted : s.KeepsUnit (s.modifyLink l LinkPort.goodFrame) := .of_reference rfl
  unfold State.onGoodFrame
  dsimp only
  split_ifs
  · exact counted.trans (each _)
  · exact counted
  · exact .refl s

theorem State.keepsUnit_withReplySlot (l : Link) {handle : State → State} (each : ∀ t : State, t.KeepsUnit (handle t)) :
    s.KeepsUnit (s.withReplySlot l handle) := by
  have reserved : s.KeepsUnit (s.modifyLink l LinkPort.reserve) := .of_reference rfl
  unfold State.withReplySlot
  split
  · exact .of_reference rfl
  · exact reserved.trans (each _)

theorem State.keepsUnit_refuseUnreserved (l : Link) (tag kind : Byte) (reason : Reason) (g : Option Group) :
    s.KeepsUnit (s.refuseUnreserved l tag kind reason g) :=
  s.keepsUnit_withReplySlot l fun _ => .of_reference rfl

theorem State.keepsUnit_admission (l : Link) (tag : Byte) (a : Action) : s.KeepsUnit (s.admission l tag a) := by
  have joined : s.KeepsUnit (s.setQueue (s.queue ++ [⟨l, tag, a⟩])) := .of_reference rfl
  unfold State.admission
  split
  · exact .of_reference rfl
  · split_ifs
    · exact .of_reference rfl
    · exact .of_reference rfl
    · cases a.group with
      | none => exact joined
      | some g => exact joined.trans (State.keepsUnit_touch _ l g)

section
variable {α : Type} (k : Kind) (l : Link) (tag : Byte) (ps : List Byte) {read : List Byte → Option α} {valid : α → State → Bool}
  {run : α → State → State}

theorem State.keepsUnit_immediate {known : Option Group} (each : ∀ a (t : State), t.KeepsUnit (run a t)) :
    s.KeepsUnit (s.immediate k l tag ps known read valid run) := by
  refine s.keepsUnit_withReplySlot l fun t => ?_
  unfold State.checked
  split
  · split
    · exact .of_reference rfl
    · split
      · exact each _ t
      · exact .of_reference rfl
  · exact .of_reference rfl

theorem State.keepsUnit_groupChecked (g : Group) (lockable : Bool) {run : State → State}
    (each : ∀ t : State, t.KeepsUnit (run t)) : s.KeepsUnit (s.groupChecked k l tag g lockable run) := by
  unfold State.groupChecked
  split
  · exact .of_reference rfl
  · split
    · exact .of_reference rfl
    · exact each s

theorem State.keepsUnit_immediateGroup {g : Group} {lockable : Bool} {data : α → State → List Byte}
    (each : ∀ a (t : State), t.KeepsUnit (run a t)) :
    s.KeepsUnit (s.immediateGroup k l tag ps g lockable read valid run data) :=
  s.keepsUnit_immediate k l tag ps fun a t => t.keepsUnit_groupChecked k l tag g lockable fun u => by
    have worked : u.KeepsUnit ((run a u).touch l g) := (each a u).trans (State.keepsUnit_touch _ l g)
    exact worked.trans (.of_reference rfl)

end

/-! The requests. -/

theorem State.keepsUnit_takeFader (l : Link) (tag : Byte) (ps : List Byte) : s.KeepsUnit (s.takeFader l tag ps) := by
  have refused (reason : Reason) (g : Option Group) := s.keepsUnit_refuseUnreserved l tag Kind.fader.code reason g
  have accepted (reading : Nat) : s.KeepsUnit (s.acceptReading l reading) :=
    .trans (t := s.setFader { s.bank.fader with reading := reading, valid := true }) (.of_reference rfl)
      (State.keepsUnit_touch _ l .trans)
  unfold State.takeFader
  split
  · split
    · exact refused _ _
    · split
      · exact refused _ _
      · split
        · exact refused _ _
        · split
          · exact accepted _
          · exact refused _ _
  · exact refused _ _

theorem State.keepsUnit_takeClaim {change : State → PerGroup Holding → State} (each : ∀ (t : State) new, t.KeepsUnit (change t new))
    (l : Link) (tag : Byte) (ps : List Byte) : s.KeepsUnit (s.takeClaim change l tag ps) := by
  refine s.keepsUnit_immediate _ l tag ps fun g t => ?_
  unfold State.carryOutClaim
  split
  · exact .of_reference rfl
  · split
    · exact .of_reference rfl
    · exact (each t _).trans (.of_reference rfl)

theorem State.keepsUnit_carryOutRelease (l : Link) (tag : Byte) (scope : ReleaseScope) :
    s.KeepsUnit (s.carryOutRelease l tag scope) := by
  unfold State.carryOutRelease
  dsimp only
  split
  · exact .of_reference rfl
  · exact (s.keepsUnit_changeHoldings _).trans (.of_reference rfl)

theorem State.keepsUnit_carryOutUnassign (l : Link) (tag : Byte) (g : Group) : s.KeepsUnit (s.carryOutUnassign l tag g) := by
  unfold State.carryOutUnassign
  split
  · exact (s.keepsUnit_changeHoldings _).trans ((State.keepsUnit_touch _ l .setup).trans (.of_reference rfl))
  · exact .of_reference rfl
  · exact .of_reference rfl

theorem State.keepsUnit_changeLink (j : Link) (a : LinkAttributes) : s.KeepsUnit (s.changeLink j a) := by
  obtain ⟨moved, change, whole⟩ := s.changeLink_steps j a
  have kept : moved.reference = s.reference := by rw [change.state]
  have told := (moved.reportHoldings_reference s.arbiter.holdings s.reference.frameCount).trans kept
  rw [whole]
  split
  · rw [State.welcome_eq]
    exact .of_reference told
  · exact .of_reference told

theorem State.keepsUnit_setLock : s.KeepsUnit s.setLock := by
  unfold State.setLock
  split
  · exact .refl s
  · exact .of_reference (State.postWhere_reference ..)

/-- CLEAR REFERENCE FLAG changes the flag alone (R140). -/
theorem State.keepsUnit_clearFlag : s.KeepsUnit (s.updateReference { s.reference with eventFlag := false }) := by
  rw [State.KeepsUnit, State.updateReference_reference]

theorem State.keepsUnit_takeWarmReset (l : Link) (tag : Byte) (ps : List Byte) : s.KeepsUnit (s.takeWarmReset l tag ps) := by
  unfold State.takeWarmReset
  split
  · split
    · exact s.keepsUnit_refuseUnreserved ..
    · exact .of_reference rfl
  · exact s.keepsUnit_refuseUnreserved ..

/-- The request of any defined kind. -/
theorem State.keepsUnit_takeKind (l : Link) (k : Kind) (tag : Byte) (ps : List Byte) : s.KeepsUnit (s.takeKind l k tag ps) := by
  cases k with
  | fader => exact s.keepsUnit_takeFader l tag ps
  | claim => exact s.keepsUnit_takeClaim State.keepsUnit_changeHoldings l tag ps
  | release =>
    refine s.keepsUnit_immediate _ l tag ps fun (scope, drain) t => ?_
    dsimp only
    split
    · exact t.keepsUnit_admission l tag _
    · exact t.keepsUnit_carryOutRelease l tag scope
  | unassignStatic =>
    exact s.keepsUnit_immediate _ l tag ps fun g t => t.keepsUnit_groupChecked _ l tag _ _ fun u =>
      u.keepsUnit_carryOutUnassign l tag g
  | assignStatic => exact s.keepsUnit_immediateGroup _ l tag ps fun _ t => t.keepsUnit_changeHoldings _
  | setLink => exact s.keepsUnit_immediateGroup _ l tag ps fun (j, a) t => t.keepsUnit_changeLink j a
  | lockSetup => exact s.keepsUnit_immediateGroup _ l tag ps fun _ t => t.keepsUnit_setLock
  | clearReferenceFlag => exact s.keepsUnit_immediateGroup _ l tag ps fun _ t => t.keepsUnit_clearFlag
  | setRephase => exact s.keepsUnit_immediateGroup _ l tag ps fun _ _ => rfl
  | warmReset => exact s.keepsUnit_takeWarmReset l tag ps
  | store | erase | setAging | clearLog => exact s.keepsUnit_immediateGroup _ l tag ps fun _ _ => .of_reference rfl
  | queryBank | queryTally | queryStatus | walkMemory | walkHoldings | readCounters | readLog =>
    exact s.keepsUnit_immediate _ l tag ps fun _ _ => .of_reference rfl
  | select | matte | nextSet | transitionSetup | faderSetup | auto | cut | keyOrder | keySelect | keySetup | keyMask | keyCut
  | recallEffects | setFormat | setOutputRange =>
    exact s.keepsUnit_immediate _ l tag ps (valid := anyValue) fun a t => t.keepsUnit_admission l tag a

theorem State.keepsUnit_hearFrame (f : RequestFrame) : s.KeepsUnit (s.hearFrame f) := by
  unfold State.hearFrame
  split
  · split
    · exact s.keepsUnit_onGoodFrame f.link fun t => t.keepsUnit_takeKind f.link _ f.tag f.bytes
    · exact .refl s
  · exact .refl s

/-- A request with those that come together with it (R87). -/
theorem State.keepsUnit_arrive (l : Link) (k : Kind) (tag : Byte) (params : Params) :
    s.KeepsUnit (s.arrive l params fun s => s.takeKind l k tag params.bytes) := by
  have row (t : State) (frames : List RequestFrame) := State.KeepsUnit.foldl State.keepsUnit_hearFrame t frames
  exact (row _ _).trans ((State.keepsUnit_onGoodFrame _ l fun t => t.keepsUnit_takeKind l k tag params.bytes).trans (row _ _))

theorem State.keepsUnit_takeBody (l : Link) (body : List Byte) : s.KeepsUnit (s.takeBody l body) := by
  refine s.keepsUnit_onGoodFrame l fun t => ?_
  split
  · unfold State.takeRequest
    split
    · exact t.keepsUnit_refuseUnreserved ..
    · exact t.keepsUnit_takeKind ..
  · exact .refl t
  · exact .refl t

/-- CLAIMs that come together (R109). -/
theorem State.keepsUnit_hearClaims (frames : List ClaimFrame) : s.KeepsUnit (s.hearClaims frames) := by
  refine (State.KeepsUnit.foldl (fun t f => ?_) s _).trans (.of_reference (State.reportHoldings_reference ..))
  exact t.keepsUnit_onGoodFrame f.link fun u =>
    u.keepsUnit_takeClaim (fun v new => .of_reference (v.moveHoldings_reference new noEntry)) f.link f.tag f.bytes

/-! The receiver. -/

theorem State.keepsUnit_discardFrame (l : Link) : s.KeepsUnit (s.discardFrame l) := by
  unfold State.discardFrame
  split <;> exact .of_reference rfl

theorem State.keepsUnit_receiveByte (l : Link) (b : Byte) : s.KeepsUnit (s.receiveByte l b) := by
  unfold State.receiveByte
  split
  · split <;> exact .of_reference rfl
  · split
    · exact .of_reference rfl
    · exact s.keepsUnit_discardFrame l
  · exact .of_reference rfl
  · split
    · exact s.keepsUnit_takeBody l _
    · exact s.keepsUnit_discardFrame l

theorem State.keepsUnit_receiveError (l : Link) : s.KeepsUnit (s.receiveError l) := by
  unfold State.receiveError
  split
  · exact .refl s
  · exact s.keepsUnit_discardFrame l

end Sys2Proof.Machine
end

section
/-! What a pulse and a missing pulse do, by the state of the reference unit (R136 to R140). -/

namespace Sys2Proof.Machine

/-! The window of an expected time and the line around a boundary. -/

/-- The window as R136 writes it: 0.1% of the period on either side. -/
theorem ReferenceUnit.inWindow_iff (u : ReferenceUnit) (due instant : Nat) : u.inWindow due instant = true ↔
    1000 * instant ≤ 1000 * due + u.format.period ∧ 1000 * due ≤ 1000 * instant + u.format.period := by
  rw [ReferenceUnit.inWindow, decide_eq_true_iff, Format.window, Nat.le_div_iff_mul_le (by decide), apart]
  omega

/-- One line as R134 writes it: the period over the total line count (log 12). -/
theorem ReferenceUnit.withinLine_iff (u : ReferenceUnit) (a b : Nat) : u.withinLine a b = true ↔
    (a - b) * u.format.totalLines ≤ u.format.period ∧ (b - a) * u.format.totalLines ≤ u.format.period := by
  have lines : 0 < u.format.totalLines := by cases u.format <;> decide
  rw [ReferenceUnit.withinLine, decide_eq_true_iff, Format.line, Nat.le_div_iff_mul_le lines, apart]
  rcases Nat.le_total a b with before | after
  · simp [Nat.sub_eq_zero_of_le before]
  · simp [Nat.sub_eq_zero_of_le after]

theorem ReferenceUnit.inPhase_iff (u : ReferenceUnit) (instant : Nat) : u.inPhase instant = true ↔
    u.withinLine instant u.lastBoundary = true ∨ u.withinLine instant u.nextBoundary = true := by
  rw [ReferenceUnit.inPhase, Bool.or_eq_true]

/-! A good pulse in ACQUIRING, and a missing pulse, at the unit. -/

section
variable {u : ReferenceUnit} {instant due : Nat}

/-- A good pulse before the eighth is counted (R137). -/
theorem ReferenceUnit.acquireMore_counts (few : u.goodCount < 7) : u.acquireMore instant =
    { u with goodCount := u.goodCount + 1, expected := some (instant + u.format.period) } :=
  if_neg (by simp only [Config.goodPulses]; omega)

/-- The eighth good pulse ends the acquisition (R137). -/
theorem ReferenceUnit.acquireMore_eighth (seven : u.goodCount = 7) : u.acquireMore instant =
    if u.inPhase instant then u.lockInPhase instant else u.waitRephase instant :=
  if_pos (by simp only [Config.goodPulses]; omega)

theorem ReferenceUnit.miss_freeRun (state : u.state = .freeRun) : u.miss due = u := by
  simp only [ReferenceUnit.miss, state]

theorem ReferenceUnit.miss_acquiring (state : u.state = .acquiring) : u.miss due = u.release false := by
  simp only [ReferenceUnit.miss, state]

/-- The first and the second of consecutive missing pulses are counted (R138, R139). -/
theorem ReferenceUnit.miss_counts (state : u.state = .rephaseWait ∨ u.state = .locked) (few : u.missingCount < 2) :
    u.miss due = { u with missingCount := u.missingCount + 1, expected := some (due + u.format.period) } := by
  have more : ¬ Config.missingPulses ≤ u.missingCount + 1 := by simp only [Config.missingPulses]; omega
  rcases state with state | state <;> simp only [ReferenceUnit.miss, state, if_neg more]

/-- The third ends REPHASE_WAIT and LOCKED; out of LOCKED it is a loss (R138 to R140). -/
theorem ReferenceUnit.miss_third (state : u.state = .rephaseWait ∨ u.state = .locked) (two : u.missingCount = 2) :
    u.miss due = u.release (decide (u.state = .locked)) := by
  have third : Config.missingPulses ≤ u.missingCount + 1 := by simp only [Config.missingPulses]; omega
  rcases state with state | state <;> simp [ReferenceUnit.miss, state, third]

end

variable {s : State} {signals : PerInput InputSignal} {instant due : Nat}

/-! The two commands outside a cold reset (R135). -/

theorem exec_referencePulse (warm : s.setup.phase ≠ .coldReset) :
    exec (.referencePulse instant signals) s = .next (s.pulse instant signals) :=
  congrArg Host.Outcome.next (if_neg fun cold => warm ((Phase.isColdReset_iff _).1 cold))

theorem execMissingPulse_idle (none : s.reference.expected = none) : execMissingPulse s = .next s := by
  simp only [execMissingPulse, none]

theorem execMissingPulse_due (warm : s.setup.phase ≠ .coldReset) (expected : s.reference.expected = some due) :
    execMissingPulse s = .next (s.updateReference (s.reference.miss due)) := by
  have pulses : ¬ s.setup.phase.isColdReset = true := fun cold => warm ((Phase.isColdReset_iff _).1 cold)
  simp only [execMissingPulse, expected, if_neg pulses]

/-- Nothing is reported where neither the state nor the flag changes (R140). -/
theorem State.updateReference_quiet {v : ReferenceUnit} (state : v.state = s.reference.state)
    (flag : v.eventFlag = s.reference.eventFlag) : s.updateReference v = s.setReference v :=
  if_pos ⟨state, flag⟩

/-! A pulse in each state. -/

/-- Any pulse in FREE_RUN begins an acquisition (R136). -/
theorem State.pulse_freeRun (state : s.reference.state = .freeRun) :
    s.pulse instant signals = s.updateReference (s.reference.acquire instant) := by
  simp only [State.pulse, state]
  split
  · rfl
  · exact ite_self _

section
variable (expected : s.reference.expected = some due)
include expected

/-- Outside the window a pulse begins a new acquisition, but in LOCKED (R137, R138). -/
theorem State.pulse_irregular (irregular : ¬ s.reference.inWindow due instant = true) (unlocked : s.reference.state ≠ .locked) :
    s.pulse instant signals = s.updateReference (s.reference.acquire instant) := by
  simp only [State.pulse, expected, if_neg irregular]
  cases state : s.reference.state with
  | locked => exact absurd state unlocked
  | freeRun | acquiring | rephaseWait => rfl

/-- In LOCKED a pulse outside the window is ignored (R139). -/
theorem State.pulse_ignored (irregular : ¬ s.reference.inWindow due instant = true) (locked : s.reference.state = .locked) :
    s.pulse instant signals = s := by
  simp only [State.pulse, expected, if_neg irregular, locked]

variable (good : s.reference.inWindow due instant = true)
include good

theorem State.pulse_acquiring (state : s.reference.state = .acquiring) :
    s.pulse instant signals = s.updateReference (s.reference.acquireMore instant) := by
  simp only [State.pulse, expected, if_pos good, state]

theorem State.pulse_rephaseWait (state : s.reference.state = .rephaseWait) :
    s.pulse instant signals = s.pulseWaiting instant signals := by
  simp only [State.pulse, expected, if_pos good, state]

theorem State.pulse_locked (state : s.reference.state = .locked) :
    s.pulse instant signals = s.pulseLocked due instant signals := by
  simp only [State.pulse, expected, if_pos good, state]

end

end Sys2Proof.Machine
end

section
/-! Every step keeps the counts and the expected time of the reference unit to its state (R134 to R139, R142). -/

namespace Sys2Proof.Machine

/-! The unit's own changes. -/

section
variable {u : ReferenceUnit}

theorem ReferenceUnit.lawful_freeRun (state : u.state = .freeRun) :
    u.Lawful ↔ u.goodCount = 0 ∧ u.missingCount = 0 ∧ u.expected = none := by
  simp only [ReferenceUnit.Lawful, state]

theorem ReferenceUnit.lawful_acquiring (state : u.state = .acquiring) :
    u.Lawful ↔ 1 ≤ u.goodCount ∧ u.goodCount ≤ 7 ∧ u.missingCount = 0 ∧ u.expected.isSome := by
  simp only [ReferenceUnit.Lawful, state]

/-- In REPHASE_WAIT and in LOCKED the law is the same. -/
theorem ReferenceUnit.lawful_following (state : u.state = .rephaseWait ∨ u.state = .locked) :
    u.Lawful ↔ u.goodCount = 0 ∧ u.missingCount ≤ 2 ∧ u.expected.isSome := by
  rcases state with state | state <;> simp only [ReferenceUnit.Lawful, state]

theorem ReferenceUnit.Lawful.countGood (h : u.Lawful) (state : u.state = .acquiring) {n : Nat} (least : 1 ≤ n) (most : n ≤ 7)
    (due : Nat) : ReferenceUnit.Lawful { u with goodCount := n, expected := some due } := by
  obtain ⟨-, -, missing, -⟩ := (ReferenceUnit.lawful_acquiring state).1 h
  exact (ReferenceUnit.lawful_acquiring (u := { u with goodCount := n, expected := some due }) state).2 ⟨least, most, missing, rfl⟩

theorem ReferenceUnit.Lawful.countMissing (h : u.Lawful) (state : u.state = .rephaseWait ∨ u.state = .locked) {n : Nat}
    (most : n ≤ 2) (due next : Nat) :
    ReferenceUnit.Lawful { u with missingCount := n, expected := some due, nextBoundary := next } := by
  obtain ⟨good, -, -⟩ := (ReferenceUnit.lawful_following state).1 h
  exact (ReferenceUnit.lawful_following
    (u := { u with missingCount := n, expected := some due, nextBoundary := next }) state).2 ⟨good, most, rfl⟩

theorem ReferenceUnit.acquire_lawful (u : ReferenceUnit) (instant : Nat) : (u.acquire instant).Lawful :=
  ⟨le_rfl, Nat.succ_le_succ (Nat.zero_le 6), rfl, rfl⟩

theorem ReferenceUnit.lockInPhase_lawful (u : ReferenceUnit) (instant : Nat) : (u.lockInPhase instant).Lawful :=
  ⟨rfl, Nat.zero_le 2, rfl⟩

theorem ReferenceUnit.lockAtPulse_lawful (u : ReferenceUnit) (instant : Nat) : (u.lockAtPulse instant).Lawful :=
  ⟨rfl, Nat.zero_le 2, rfl⟩

theorem ReferenceUnit.waitRephase_lawful (u : ReferenceUnit) (instant : Nat) : (u.waitRephase instant).Lawful :=
  ⟨rfl, Nat.zero_le 2, rfl⟩

theorem ReferenceUnit.release_lawful (u : ReferenceUnit) (loss : Bool) : (u.release loss).Lawful := ⟨rfl, rfl, rfl⟩

theorem ReferenceUnit.reformat_lawful (u : ReferenceUnit) (f : Format) : (u.reformat f).Lawful := ⟨rfl, rfl, rfl⟩

/-- The law does not read the timer (R134). -/
theorem ReferenceUnit.boundary_lawful (h : u.Lawful) (instant : Nat) : (u.boundary instant).Lawful := h

theorem ReferenceUnit.acquireMore_lawful (h : u.Lawful) (state : u.state = .acquiring) (instant : Nat) :
    (u.acquireMore instant).Lawful := by
  obtain ⟨-, most, -⟩ := (ReferenceUnit.lawful_acquiring state).1 h
  rcases most.lt_or_eq with few | seven
  · rw [ReferenceUnit.acquireMore_counts few]
    exact h.countGood state (Nat.le_add_left 1 _) few _
  · rw [ReferenceUnit.acquireMore_eighth seven]
    split
    · exact u.lockInPhase_lawful instant
    · exact u.waitRephase_lawful instant

theorem ReferenceUnit.miss_lawful (h : u.Lawful) (due : Nat) : (u.miss due).Lawful := by
  have following (state : u.state = .rephaseWait ∨ u.state = .locked) : (u.miss due).Lawful := by
    obtain ⟨-, most, -⟩ := (ReferenceUnit.lawful_following state).1 h
    rcases most.lt_or_eq with few | two
    · rw [ReferenceUnit.miss_counts state few]
      exact h.countMissing state few _ u.nextBoundary
    · rw [ReferenceUnit.miss_third state two]
      exact u.release_lawful _
  cases state : u.state with
  | freeRun => rwa [ReferenceUnit.miss_freeRun state]
  | acquiring => rw [ReferenceUnit.miss_acquiring state]; exact u.release_lawful false
  | rephaseWait => exact following (.inl state)
  | locked => exact following (.inr state)

end

variable {s t : State}

/-! A boundary. -/

/-- A SET FORMAT that is carried out leaves the unit in FREE_RUN; no other entry touches it (R142). -/
theorem State.applyEntry_referenceLawful (h : s.reference.Lawful) (signals : PerInput InputSignal) (e : Entry) :
    (s.applyEntry signals e).reference.Lawful := by
  by_cases format : ∃ f, e.action = .setFormat f
  · obtain ⟨f, action⟩ := format
    have whole : s.applyEntry signals e = s.applySetFormat e f signals := by simp only [State.applyEntry, action]
    have changed : (s.changeFormat f signals).reference.Lawful :=
      (s.changeFormat_bank f signals).2 ▸ s.reference.reformat_lawful f
    rw [whole]
    unfold State.applySetFormat
    split_ifs
    · exact h
    · exact h
    · exact changed
  · rw [(s.applyEntry_ports signals e (not_exists.1 format)).2]
    exact h

theorem State.boundary_referenceLawful (h : s.reference.Lawful) (signals : PerInput InputSignal) (instant : Nat) :
    (s.boundary signals instant).reference.Lawful := by
  have opened : (s.takeOwedSweep.openBoundary signals instant).reference.Lawful :=
    ReferenceUnit.boundary_lawful (s.takeOwedSweep_reference ▸ h) instant
  have applied : (s.applied signals instant).reference.Lawful :=
    State.applyRounds_keeps (P := fun t => t.reference.Lawful)
      (fun t e rest _ ht => State.applyEntry_referenceLawful (s := t.setQueue rest) ht signals e) _ _ opened
  rw [s.boundary_eq signals instant]
  exact applied

/-! Pulses. -/

theorem State.updateReference_lawful {u : ReferenceUnit} (h : u.Lawful) : (s.updateReference u).reference.Lawful :=
  (s.updateReference_reference u).symm ▸ h

section
variable (h : s.reference.Lawful) (instant : Nat) (signals : PerInput InputSignal)
include h

theorem State.pulseWaiting_lawful (state : s.reference.state = .rephaseWait) :
    (s.pulseWaiting instant signals).reference.Lawful := by
  unfold State.pulseWaiting
  dsimp only
  split_ifs
  · exact State.updateReference_lawful (s.reference.lockInPhase_lawful instant)
  · exact State.boundary_referenceLawful (State.updateReference_lawful (s.reference.lockAtPulse_lawful instant)) signals instant
  · exact h.countMissing (.inl state) (Nat.zero_le 2) _ s.reference.nextBoundary

theorem State.pulseLocked_lawful (state : s.reference.state = .locked) (due : Nat) :
    (s.pulseLocked due instant signals).reference.Lawful := by
  have moved := h.countMissing (.inr state) (Nat.zero_le 2)
  unfold State.pulseLocked
  dsimp only
  split_ifs
  · exact State.boundary_referenceLawful (s := s.setReference _) (moved _ _) signals instant
  · exact moved _ _

theorem State.pulse_lawful : (s.pulse instant signals).reference.Lawful := by
  have acquired := State.updateReference_lawful (s := s) (s.reference.acquire_lawful instant)
  by_cases free : s.reference.state = .freeRun
  · rwa [State.pulse_freeRun free]
  cases expected : s.reference.expected with
  | none => simpa only [State.pulse, expected] using acquired
  | some due =>
    by_cases good : s.reference.inWindow due instant = true
    · cases state : s.reference.state with
      | freeRun => exact absurd state free
      | acquiring =>
        rw [State.pulse_acquiring expected good state]
        exact State.updateReference_lawful (ReferenceUnit.acquireMore_lawful h state instant)
      | rephaseWait =>
        rw [State.pulse_rephaseWait expected good state]
        exact State.pulseWaiting_lawful h instant signals state
      | locked =>
        rw [State.pulse_locked expected good state]
        exact State.pulseLocked_lawful h instant signals state due
    · by_cases locked : s.reference.state = .locked
      · rwa [State.pulse_ignored expected good locked]
      · rwa [State.pulse_irregular expected good locked]

end

/-! Every command. -/

theorem exec_sweep_keepsUnit (e : exec .sweep s = .next t) : s.KeepsUnit t := by
  obtain rfl := Host.Outcome.next.inj e
  split
  · exact .of_reference s.takeOwedSweep_reference
  · exact .refl s
  · split
    · exact (s.keepsUnit_sweepHoldings _).trans (.of_reference rfl)
    · exact .refl s

theorem exec_claim_keepsUnit {l : Link} {tag : Byte} {params : ClaimParams} (e : exec (.claim l tag params) s = .next t) :
    s.KeepsUnit t := by
  obtain rfl := Host.Outcome.next.inj e
  split
  · exact s.keepsUnit_onGoodFrame l fun u => u.keepsUnit_takeKind l .claim tag _
  · exact s.keepsUnit_hearClaims _

theorem exec_request_keepsUnit {c : Instr} {r : Kind × Link × Byte × Params} (asked : requestOf c = some r)
    (e : exec c s = .next t) : s.KeepsUnit t := by
  obtain ⟨k, l, tag, params⟩ := r
  rw [exec_requestOf s asked] at e
  exact Host.Outcome.next.inj e ▸ s.keepsUnit_arrive l k tag params

theorem exec_missingPulse_lawful (h : s.reference.Lawful) (e : exec .missingPulse s = .next t) : t.reference.Lawful := by
  obtain rfl := Host.Outcome.next.inj e
  split
  · exact h
  · split
    · exact h
    · exact State.updateReference_lawful (ReferenceUnit.miss_lawful h _)

/-- Every command keeps the law: boundaries, pulses and the lines one by one, the rest because they keep the unit. -/
theorem exec_referenceLawful (c : Instr) (h : s.reference.Lawful) (e : exec c s = .next t) : t.reference.Lawful := by
  cases c with
  | frameBoundary signals =>
    obtain rfl := Host.Outcome.next.inj e
    split
    · exact h
    · exact State.boundary_referenceLawful h _ _
  | referencePulse instant signals =>
    obtain rfl := Host.Outcome.next.inj e
    split
    · exact h
    · exact State.pulse_lawful h _ _
  | missingPulse => exact exec_missingPulse_lawful h e
  | coldResetAsserted => exact Host.Outcome.next.inj e ▸ ⟨rfl, rfl, rfl⟩
  | coldResetReleased timerDue =>
    obtain rfl := Host.Outcome.next.inj e
    split <;> exact h
  | warmResetAsserted =>
    obtain rfl := Host.Outcome.next.inj e
    split <;> exact h
  | signalLoss i first last =>
    obtain rfl := Host.Outcome.next.inj e
    split <;> exact h
  | warmResetReleased | transmissionBegins | transmissionEnds => exact Host.Outcome.next.inj e ▸ h
  | sweep => exact (exec_sweep_keepsUnit e).lawful h
  | claim l tag params => exact (exec_claim_keepsUnit e).lawful h
  | undefinedKind l kind tag ps => exact Host.Outcome.next.inj e ▸ (s.keepsUnit_takeBody l _).lawful h
  | disabledLinkFrame l kind tag ps => exact Host.Outcome.next.inj e ▸ (s.keepsUnit_takeBody l _).lawful h
  | frameDiscarded l cause => exact Host.Outcome.next.inj e ▸ (s.keepsUnit_discardFrame l).lawful h
  | byteGapExpiry l => exact Host.Outcome.next.inj e ▸ (s.keepsUnit_receiveError l).lawful h
  | byteReceived l b stopValid =>
    obtain rfl := Host.Outcome.next.inj e
    split
    · split
      · exact (s.keepsUnit_receiveByte l b).lawful h
      · exact (s.keepsUnit_receiveError l).lawful h
    · exact h
  | _ => exact (exec_request_keepsUnit rfl e).lawful h

/-- Settles O10: requests keep the unit but for its flag and its policy, a boundary moves its timer or puts it into FREE_RUN, and
each change of its state sets the counts and the expected time that belong to the new one. -/
theorem referenceLawKept : Obligations.ReferenceLawKept := by
  intro s t h e
  unfold step at e
  split at e
  · exact Host.Outcome.next.inj e ▸ h
  · next c rest _ => exact exec_referenceLawful (s := { s with pending := rest }) c h e

end Sys2Proof.Machine
end

section
/-! Pulses and missing pulses as commands, with their reports (R136 to R140). -/

namespace Sys2Proof.Machine

variable {s : State} {signals : PerInput InputSignal} {instant due : Nat}

/-! Entering LOCKED without a boundary at the pulse. -/

/-- The next boundary of a unit that locks in phase, whatever the form in which `within 1 line of the latest` is decided (log 11). -/
theorem ReferenceUnit.lockInPhase_eq {u : ReferenceUnit} {justPast : Prop} [Decidable justPast]
    (decides : u.withinLine instant u.lastBoundary = true ↔ justPast) : u.lockInPhase instant =
      { u.lockAtPulse instant with nextBoundary := if justPast then instant + u.format.period else u.nextBoundary } := by
  simp only [ReferenceUnit.lockInPhase, ReferenceUnit.lockAtPulse, decides]

/-! The eighth good pulse in ACQUIRING. -/

theorem ReferenceUnit.acquireMore_inPhase {u : ReferenceUnit} (seven : u.goodCount = 7) (inPhase : u.inPhase instant = true) :
    u.acquireMore instant = u.lockInPhase instant := (ReferenceUnit.acquireMore_eighth seven).trans (if_pos inPhase)

theorem ReferenceUnit.acquireMore_outOfPhase {u : ReferenceUnit} (seven : u.goodCount = 7) (apart : ¬ u.inPhase instant = true) :
    u.acquireMore instant = u.waitRephase instant := (ReferenceUnit.acquireMore_eighth seven).trans (if_neg apart)

/-! A good pulse in REPHASE_WAIT. -/

theorem State.pulseWaiting_inPhase (inPhase : s.reference.inPhase instant = true) :
    s.pulseWaiting instant signals = s.updateReference (s.reference.lockInPhase instant) := if_pos inPhase

theorem State.pulseWaiting_rephases (apart : ¬ s.reference.inPhase instant = true)
    (now : s.reference.policy = .immediate ∨ s.bank.state = .idle) : s.pulseWaiting instant signals =
      (s.updateReference (s.reference.lockAtPulse instant)).boundary signals instant :=
  (if_neg apart).trans (if_pos (now.imp_right Bank.running_idle))

theorem State.pulseWaiting_waits (apart : ¬ s.reference.inPhase instant = true) (policy : s.reference.policy = .atIdle)
    (running : s.bank.state ≠ .idle) : s.pulseWaiting instant signals = s.setReference { s.reference with
      missingCount := 0, expected := some (instant + s.reference.format.period) } := by
  have later : ¬ (s.reference.policy = .immediate ∨ s.bank.running = false) := by
    simp [policy, s.bank.running_iff.2 running]
  exact (if_neg apart).trans (if_neg later)

/-! A missing pulse. -/

section
variable (warm : s.setup.phase ≠ .coldReset) (expected : s.reference.expected = some due)
  (state : s.reference.state = .rephaseWait ∨ s.reference.state = .locked)
include warm expected state

theorem exec_missingPulse_counts (few : s.reference.missingCount < 2) : exec .missingPulse s = .next (s.setReference
    { s.reference with
      missingCount := s.reference.missingCount + 1, expected := some (due + s.reference.format.period) }) := by
  refine (execMissingPulse_due warm expected).trans (congrArg Host.Outcome.next ?_)
  rw [ReferenceUnit.miss_counts state few]
  exact State.updateReference_quiet rfl rfl

theorem exec_missingPulse_third (two : s.reference.missingCount = 2) : exec .missingPulse s =
    .next (s.updateReference (s.reference.release (decide (s.reference.state = .locked)))) := by
  refine (execMissingPulse_due warm expected).trans (congrArg Host.Outcome.next ?_)
  rw [ReferenceUnit.miss_third state two]

end

/-- Settles O60: each clause is the equation of the pulse, or of the missing pulse, in its state. -/
theorem referenceEvents : Obligations.ReferenceEvents := by
  intro s at' sig warm lawful u period good line inPhase c told acquiring lockedAt free
  have window (due : Nat) : u.inWindow due at' = true ↔ good due := u.inWindow_iff due at'
  have phase : u.inPhase at' = true ↔ inPhase := by
    rw [u.inPhase_iff, u.withinLine_iff, u.withinLine_iff]
  have pulsed : exec c s = .next (s.pulse at' sig) := exec_referencePulse warm
  have locks : s.updateReference (u.lockInPhase at') =
      told (lockedAt (if line u.lastBoundary then at' + period else u.nextBoundary)) :=
    congrArg s.updateReference (ReferenceUnit.lockInPhase_eq (u.withinLine_iff at' u.lastBoundary))
  have released : s.updateReference (u.release false) = told (free u.eventFlag) := by
    rw [ReferenceUnit.release, Bool.or_false]
    rfl
  have lost : s.updateReference (u.release true) = told (free true) := by
    rw [ReferenceUnit.release, Bool.or_true]
    rfl
  have restarts {due : Nat} (expected : u.expected = some due) (unlocked : u.state ≠ .locked) (bad : ¬ good due) :
      exec c s = .next (told acquiring) :=
    pulsed.trans (congrArg Host.Outcome.next (State.pulse_irregular expected (mt (window due).1 bad) unlocked))
  refine ⟨fun state => ⟨?_, ?_⟩, fun due expected => ⟨fun state => ?acquiring, fun state => ?rephaseWait, fun state => ?locked⟩⟩
  · rw [pulsed, State.pulse_freeRun state]
    rfl
  · obtain ⟨-, -, none⟩ := (ReferenceUnit.lawful_freeRun state).1 lawful
    exact execMissingPulse_idle none
  case acquiring =>
    have taken (ok : good due) : exec c s = .next (s.updateReference (u.acquireMore at')) :=
      pulsed.trans (congrArg Host.Outcome.next (State.pulse_acquiring expected ((window due).2 ok) state))
    refine ⟨restarts expected (by simp [state]), fun ok few => ?_, fun ok seven near => ?_, fun ok seven far => ?_, ?_⟩
    · rw [taken ok, ReferenceUnit.acquireMore_counts few]
      exact congrArg Host.Outcome.next (State.updateReference_quiet rfl rfl)
    · rw [taken ok, ReferenceUnit.acquireMore_inPhase seven (phase.2 near), locks]
    · rw [taken ok, ReferenceUnit.acquireMore_outOfPhase seven (mt phase.1 far)]
      rfl
    · rw [← released, ← ReferenceUnit.miss_acquiring (due := due) state]
      exact execMissingPulse_due warm expected
  case rephaseWait =>
    have taken (ok : good due) : exec c s = .next (s.pulseWaiting at' sig) :=
      pulsed.trans (congrArg Host.Outcome.next (State.pulse_rephaseWait expected ((window due).2 ok) state))
    refine ⟨restarts expected (by simp [state]), fun ok near => ?_, fun ok far now => ?_, fun ok far later running => ?_,
      exec_missingPulse_counts warm expected (.inl state), fun two => ?_⟩
    · rw [taken ok, State.pulseWaiting_inPhase (phase.2 near), locks]
    · rw [taken ok, State.pulseWaiting_rephases (mt phase.1 far) now]
      rfl
    · rw [taken ok, State.pulseWaiting_waits (mt phase.1 far) later running]
      rfl
    · rw [exec_missingPulse_third warm expected (.inl state) two, ← released, state]
      rfl
  case locked =>
    have taken (ok : good due) : exec c s = .next (s.pulseLocked due at' sig) :=
      pulsed.trans (congrArg Host.Outcome.next (State.pulse_locked expected ((window due).2 ok) state))
    refine ⟨fun bad => ?_, fun ok => ⟨fun early ahead => ?_, fun other => ?_⟩,
      exec_missingPulse_counts warm expected (.inr state), fun two => ?_⟩
    · rw [pulsed, State.pulse_ignored expected (mt (window due).1 bad) state]
    · exact (taken ok).trans (congrArg Host.Outcome.next (if_pos ⟨early, ahead⟩))
    · exact (taken ok).trans (congrArg Host.Outcome.next (if_neg fun ⟨early, ahead⟩ => other.elim early.not_gt ahead.not_gt))
    · rw [exec_missingPulse_third warm expected (.inr state) two, ← lost, state]
      rfl

end Sys2Proof.Machine
end

section
/-! The receiver byte by byte, and the bytes of a whole frame (R145, R148 to R151). -/

namespace Sys2Proof.Machine

variable {s : State} {l : Link}

/-! One byte, by the receiver's state (R150). -/

theorem exec_byteReceived_running (running : s.setup.phase = .running) (b : Byte) :
    exec (.byteReceived l b true) s = .next (s.receiveByte l b) :=
  congrArg Host.Outcome.next (if_pos ((Phase.isRunning_iff _).2 running))

theorem exec_byteReceived_lineError (running : s.setup.phase = .running) (b : Byte) :
    exec (.byteReceived l b false) s = .next (s.receiveError l) :=
  congrArg Host.Outcome.next (if_pos ((Phase.isRunning_iff _).2 running))

theorem exec_byteReceived_resting (resting : s.setup.phase ≠ .running) (b : Byte) (stopValid : Bool) :
    exec (.byteReceived l b stopValid) s = .next s :=
  congrArg Host.Outcome.next (if_neg (mt (Phase.isRunning_iff _).1 resting))

theorem State.receiveByte_hunt (receiver : (s.links.get l).receiver = .hunt) (b : Byte) :
    s.receiveByte l b = if b = 0xA7 then s.setReceiver l .length else s := by
  simp only [State.receiveByte, receiver]

theorem State.receiveByte_length (receiver : (s.links.get l).receiver = .length) (b : Byte) :
    s.receiveByte l b =
      if 2 ≤ b.toNat ∧ b.toNat ≤ 60 then s.setReceiver l (.body b.toNat []) else s.discardFrame l := by
  simp only [State.receiveByte, receiver]

theorem State.receiveByte_body {n : Nat} {got : List Byte} (receiver : (s.links.get l).receiver = .body n got) (b : Byte) :
    s.receiveByte l b = s.setReceiver l (nextReceiver n (got ++ [b])) := by
  simp only [State.receiveByte, receiver]

theorem State.receiveByte_check {n : Nat} {got : List Byte} (receiver : (s.links.get l).receiver = .check n got) (b : Byte) :
    s.receiveByte l b = if (bodySum n got + b.toNat) % 256 = 0 then s.takeBody l got else s.discardFrame l := by
  simp only [State.receiveByte, receiver]

theorem nextReceiver_more {n : Nat} {got : List Byte} (short : got.length < n) : nextReceiver n got = .body n got :=
  if_neg short.not_ge

theorem nextReceiver_full {n : Nat} {got : List Byte} (full : got.length = n) : nextReceiver n got = .check n got :=
  if_pos full.ge

/-- Settles O58: each clause is the equation of the receiver's state. -/
theorem bytesReceived : Obligations.BytesReceived := by
  intro s l b p turned counted bad
  refine ⟨fun resting v => exec_byteReceived_resting resting b v, fun running => ?_⟩
  have discarded : s.discardFrame l = bad := by
    rw [State.discardFrame_eq, if_pos running]
    rfl
  rw [exec_byteReceived_lineError running]
  simp only [turned, exec_byteReceived_running running]
  refine ⟨fun hunt => ?idle, fun amid => ?broken, fun hunt start => ?start, fun hunt other => ?noise,
    fun length low high => ?length, fun length outside => ?badLength, fun n got body more => ?body,
    fun n got body last => ?lastByte, fun n got check wrong => ?badCheck⟩
  case idle => rw [State.receiveError, if_pos hunt]
  case broken => rw [State.receiveError, if_neg amid, discarded]
  case start =>
    rw [State.receiveByte_hunt hunt, if_pos start]
    rfl
  case noise => rw [State.receiveByte_hunt hunt, if_neg other]
  case length =>
    rw [State.receiveByte_length length, if_pos ⟨low, high⟩]
    rfl
  case badLength => rw [State.receiveByte_length length, if_neg (by omega), discarded]
  case body =>
    rw [State.receiveByte_body body, nextReceiver_more (by simpa using more)]
    rfl
  case lastByte =>
    rw [State.receiveByte_body body, nextReceiver_full (by simpa using last)]
    rfl
  case badCheck => rw [State.receiveByte_check check, bodySum, if_neg wrong, discarded]

/-! The receiver of one link moved, everything else left. -/

@[simp] theorem State.setReceiver_setup (r : Receiver) : (s.setReceiver l r).setup = s.setup := rfl

@[simp] theorem State.setReceiver_receiver (r : Receiver) : ((s.setReceiver l r).links.get l).receiver = r := by
  simp [State.setReceiver]

@[simp] theorem State.setReceiver_setReceiver (q r : Receiver) : (s.setReceiver l q).setReceiver l r = s.setReceiver l r :=
  s.modifyLink_modifyLink l _ _

/-- A good frame returns the receiver to HUNT, so it does the same from any receiver state (R150). -/
theorem State.onGoodFrame_setReceiver (running : s.setup.phase = .running) (r : Receiver) (handle : State → State) :
    (s.setReceiver l r).onGoodFrame l handle = s.onGoodFrame l handle := by
  have up := (Phase.isRunning_iff _).2 running
  have heard : (s.setReceiver l r).modifyLink l LinkPort.goodFrame = s.modifyLink l LinkPort.goodFrame :=
    s.modifyLink_modifyLink l _ _
  simp only [State.onGoodFrame, State.setReceiver_setup, up, if_true, heard]
  rfl

/-! The bytes of a frame one after another. -/

theorem receiveAll_cons {t : State} {b : Byte} (received : s.receiveByte l b = t) (running : s.setup.phase = .running)
    (rest : List Byte) : receiveAll l (b :: rest) s = receiveAll l rest t := by
  rw [receiveAll, exec_byteReceived_running running, received]

/-- LENGTH, the body and CHECK add up to a multiple of 256 (R145). -/
theorem bodySum_checkByte (body : List Byte) : (bodySum body.length body + (checkByte body).toNat) % 256 = 0 := by
  simp only [checkByte, byteOf, BitVec.toNat_ofNat]
  omega

/-- The bytes a body still lacks, received, take the receiver to CHECK with the whole body (R150). -/
theorem receiveAll_body (running : s.setup.phase = .running) {n : Nat} (rest : List Byte) :
    ∀ (body got : List Byte), got.length + body.length = n →
      receiveAll l (body ++ rest) (s.setReceiver l (nextReceiver n got)) =
        receiveAll l rest (s.setReceiver l (.check n (got ++ body)))
  | [], got, whole => by rw [nextReceiver_full whole, List.nil_append, List.append_nil]
  | b :: body, got, whole => by
    rw [List.length_cons] at whole
    have received : (s.setReceiver l (.body n got)).receiveByte l b = s.setReceiver l (nextReceiver n (got ++ [b])) := by
      rw [State.receiveByte_body (State.setReceiver_receiver _), State.setReceiver_setReceiver]
    rw [nextReceiver_more (by omega), List.cons_append, receiveAll_cons received running,
      receiveAll_body running rest body (got ++ [b]) (by simp; omega), List.append_assoc, List.singleton_append]

/-- From HUNT, the bytes of a frame bring its body (R145, R150). -/
theorem receiveAll_frameBytes (running : s.setup.phase = .running) (hunt : (s.links.get l).receiver = .hunt) {body : List Byte}
    (low : 2 ≤ body.length) (high : body.length ≤ 60) :
    receiveAll l (frameBytes body) s = .next (s.takeBody l body) := by
  have length : (byteOf body.length).toNat = body.length := by
    simp only [byteOf, BitVec.toNat_ofNat]
    omega
  have start : s.receiveByte l 0xA7 = s.setReceiver l .length := by rw [State.receiveByte_hunt hunt, if_pos rfl]
  have sized : (s.setReceiver l .length).receiveByte l (byteOf body.length) =
      s.setReceiver l (nextReceiver body.length []) := by
    rw [State.receiveByte_length (State.setReceiver_receiver _), length, if_pos ⟨low, high⟩, State.setReceiver_setReceiver,
      nextReceiver_more (got := []) (by simp; omega)]
  have checked : (s.setReceiver l (.check body.length body)).receiveByte l (checkByte body) = s.takeBody l body := by
    rw [State.receiveByte_check (State.setReceiver_receiver _), if_pos (bodySum_checkByte body)]
    exact State.onGoodFrame_setReceiver running _ _
  calc receiveAll l (frameBytes body) s
      = receiveAll l (byteOf body.length :: (body ++ [checkByte body])) (s.setReceiver l .length) :=
        receiveAll_cons start running _
    _ = receiveAll l (body ++ [checkByte body]) (s.setReceiver l (nextReceiver body.length [])) :=
        receiveAll_cons sized running _
    _ = receiveAll l [checkByte body] (s.setReceiver l (.check body.length body)) :=
        receiveAll_body running _ body [] (Nat.zero_add _)
    _ = .next (s.takeBody l body) := receiveAll_cons checked running []

/-- A body of a defined kind is the request of that kind (R149). -/
theorem exec_request_takeBody (k : Kind) (tag : Byte) (ps : List Byte) :
    exec (k.request l tag ps) s = .next (s.takeBody l (k.code :: tag :: ps)) := by
  simp only [exec_request, State.takeBody, State.takeRequest, ofCode_code]

/-- Settles O59: the bytes bring the frame's body, and the body is the request of its kind. -/
theorem frameReceived : Obligations.FrameReceived := by
  intro s l tag ps running hunt short
  have whole (kind : Byte) : receiveAll l (frameBytes (kind :: tag :: ps)) s = .next (s.takeBody l (kind :: tag :: ps)) :=
    receiveAll_frameBytes running hunt (by simp) (Nat.add_le_add_right short 2)
  exact ⟨fun k => (whole k.code).trans (exec_request_takeBody k tag ps).symm, fun kind _ => whole kind⟩

end Sys2Proof.Machine
end

section
/-! The law of the refusal log, kept by every refusal noted and by every clear (R158, R160). -/

namespace Sys2Proof.Machine

/-! The records. -/

theorem sameRefusal_symm {a b : LogRecord} (h : sameRefusal a b) : sameRefusal b a := ⟨h.1.symm, h.2.symm⟩

theorem sameRefusal_trans {a b c : LogRecord} (h : sameRefusal a b) (k : sameRefusal b c) : sameRefusal a c :=
  ⟨h.1.trans k.1, h.2.trans k.2⟩

theorem LogRecord.same_iff (x r : LogRecord) : x.same r.link r.reason = true ↔ sameRefusal x r := by
  simp [LogRecord.same, sameRefusal]

/-- A repeat counted keeps the repeat count within 1..255, where it stays at 255 (R158). -/
theorem LogRecord.again_repeats {r : LogRecord} (range : 1 ≤ r.repeats ∧ r.repeats ≤ 255) :
    1 ≤ r.again.repeats ∧ r.again.repeats ≤ 255 := by
  have limit : Config.repeatLimit = 255 := rfl
  unfold LogRecord.again
  split_ifs <;> dsimp only <;> omega

/-- A fill sets one place; past the last place where no record is empty. -/
theorem fillFirst_eq_set (r : LogRecord) (records : List (Option LogRecord)) :
    ∃ n, fillFirst r records = records.set n (some r) := by
  induction records with
  | nil => exact ⟨0, rfl⟩
  | cons o rest ih =>
    cases o with
    | none => exact ⟨0, rfl⟩
    | some x =>
      obtain ⟨n, filled⟩ := ih
      exact ⟨n + 1, congrArg (some x :: ·) filled⟩

namespace RefusalLog

/-- What may happen to the log: a refusal is noted, or a clear is carried out (R158, R160). -/
inductive Move (g : RefusalLog) : RefusalLog → Prop
  | note (r : LogRecord) (once : r.repeats = 1) : g.Move (g.note r)
  | clear (n : Option Nat) : g.Move (g.clear n)

namespace Lawful

variable {g : RefusalLog} (h : g.Lawful)
include h

/-- A place takes nothing, or a record whose link and reason no other holds. -/
theorem put (n : Nat) {o : Option LogRecord}
    (fresh : ∀ r, o = some r → (∀ x, some x ∈ g.records → ¬ sameRefusal x r) ∧ 1 ≤ r.repeats ∧ r.repeats ≤ 255) :
    Lawful { g with records := g.records.set n o } where
  size := List.length_set.trans h.size
  distinct i j a b first second same := by
    have place {i : Nat} {a : LogRecord} (found : (g.records.set n o)[i]? = some (some a)) :
        n = i ∧ o = some a ∨ g.records[i]? = some (some a) := by
      rw [List.getElem?_set] at found
      split_ifs at found with here
      · exact .inl ⟨here, Option.some.inj found⟩
      · exact .inr found
    have other {i : Nat} {x r : LogRecord} (new : o = some r) (old : g.records[i]? = some (some x)) : ¬ sameRefusal x r :=
      (fresh r new).1 x (List.mem_of_getElem? old)
    rcases place first with ⟨rfl, new⟩ | old <;> rcases place second with ⟨rfl, new'⟩ | old'
    · rfl
    · exact absurd (sameRefusal_symm same) (other new old')
    · exact absurd same (other new' old)
    · exact h.distinct i j a b old old' same
  repeats a filled := by
    rcases List.mem_or_eq_of_mem_set filled with old | new
    · exact h.repeats a old
    · exact (fresh a new.symm).2

/-- Records change, but none its link or its reason. -/
theorem map {f : LogRecord → LogRecord} (refusal : ∀ x, sameRefusal x (f x))
    (range : ∀ x, 1 ≤ x.repeats ∧ x.repeats ≤ 255 → 1 ≤ (f x).repeats ∧ (f x).repeats ≤ 255) :
    Lawful { g with records := g.records.map (Option.map f) } where
  size := (List.length_map _).trans h.size
  distinct i j a b first second same := by
    have former {i : Nat} {a : LogRecord} (found : (g.records.map (Option.map f))[i]? = some (some a)) :
        ∃ x, g.records[i]? = some (some x) ∧ sameRefusal x a := by
      rw [List.getElem?_map, Option.map_eq_some_iff] at found
      obtain ⟨o, old, changed⟩ := found
      obtain ⟨x, rfl, rfl⟩ := Option.map_eq_some_iff.1 changed
      exact ⟨x, old, refusal x⟩
    obtain ⟨x, old, ofFirst⟩ := former first
    obtain ⟨y, old', ofSecond⟩ := former second
    exact h.distinct i j x y old old' (sameRefusal_trans (sameRefusal_trans ofFirst same) (sameRefusal_symm ofSecond))
  repeats a filled := by
    obtain ⟨o, old, changed⟩ := List.mem_map.1 filled
    obtain ⟨x, rfl, rfl⟩ := Option.map_eq_some_iff.1 changed
    exact range x (h.repeats x old)

/-- A refusal is counted in the record of its link and reason, takes a record where none has them, or sets the overflow flag
(R158). -/
theorem note {r : LogRecord} (once : r.repeats = 1) : (g.note r).Lawful := by
  unfold RefusalLog.note
  split_ifs with known room
  · refine h.map (fun x => ?_) fun x range => ?_
    · split <;> exact ⟨rfl, rfl⟩
    · split
      · exact LogRecord.again_repeats range
      · exact range
  · obtain ⟨n, filled⟩ := fillFirst_eq_set r g.records
    have fresh (x : LogRecord) (old : some x ∈ g.records) : ¬ sameRefusal x r := fun same =>
      known (List.any_eq_true.2 ⟨some x, old, (x.same_iff r).2 same⟩)
    rw [filled]
    refine h.put n fun r' new => ?_
    obtain rfl := Option.some.inj new
    exact ⟨fresh, by omega, by omega⟩
  · exact ⟨h.size, h.distinct, h.repeats⟩

/-- A clear empties one record or all (R160). -/
theorem clear (n : Option Nat) : (g.clear n).Lawful := by
  cases n with
  | none => exact emptyLog_lawful
  | some n => exact h.put (n - 1) nofun

theorem moves {g' : RefusalLog} (course : Relation.ReflTransGen Move g g') : g'.Lawful := by
  induction course with
  | refl => exact h
  | tail _ move ih =>
    cases move with
    | note r once => exact ih.note once
    | clear n => exact ih.clear n

end Lawful

end RefusalLog

end Sys2Proof.Machine
end

section
/-! Every step leaves the refusal log to refusals and clears, and so keeps its law (R158, R160, R162). -/

namespace Sys2Proof.Machine

/-- The log has come from one state to the other by refusals and clears alone. -/
def State.Logs (s t : State) : Prop := Relation.ReflTransGen RefusalLog.Move s.log t.log

namespace State.Logs

theorem of_log {s t : State} (same : t.log = s.log) : s.Logs t := by
  rw [State.Logs, same]

theorem refl (s : State) : s.Logs s := of_log rfl

theorem trans {s t u : State} (a : s.Logs t) (b : t.Logs u) : s.Logs u := Relation.ReflTransGen.trans a b

/-- A row of works, each of which leaves the log to refusals and clears. -/
theorem foldl {α : Type} {f : State → α → State} (each : ∀ (t : State) a, t.Logs (f t a)) (s : State) (as : List α) :
    s.Logs (as.foldl f s) :=
  List.foldlRecOn (motive := s.Logs) as f (refl s) fun t logged a _ => logged.trans (each t a)

end State.Logs

variable (s : State) (l : Link)

theorem State.logs_refuse (tag kind : Byte) (reason : Reason) (g : Option Group) : s.Logs (s.refuse l tag kind reason g) :=
  .single (.note _ rfl)

theorem State.logs_clear (n : Option Nat) : s.Logs (s.setLog (s.log.clear n)) := .single (.clear n)

/-! Reports, moves of the holdings table, and changes of the reference unit. -/

theorem State.postWhere_log (want : Link → Bool) (m : Message) : (s.postWhere want m).log = s.log := by
  rw [State.postWhere_eq]
  rfl

theorem State.updateReference_log (u : ReferenceUnit) : (s.updateReference u).log = s.log := by
  unfold State.updateReference
  dsimp only
  split
  · rfl
  · exact State.postWhere_log ..

theorem State.reportHoldings_log (old : PerGroup Holding) (f : FrameCount) : (s.reportHoldings old f).log = s.log := by
  rw [(s.reportHoldings_eq old f).1]

/-- Entries answered WITHDRAWN are refusals, one after another (R94). -/
theorem moves_withdrawnLog (g : RefusalLog) (f : FrameCount) (es : List Entry) :
    Relation.ReflTransGen RefusalLog.Move g (withdrawnLog g f es) :=
  List.foldlRecOn (motive := Relation.ReflTransGen RefusalLog.Move g) es _ .refl fun _ course _ _ => course.tail (.note _ rfl)

theorem State.logs_moveHoldings (new : PerGroup Holding) (also : Entry → Bool) : s.Logs (s.moveHoldings new also) := by
  rw [State.Logs, (s.moveHoldings_eq new also).1]
  exact moves_withdrawnLog ..

theorem State.logs_moveReported (new : PerGroup Holding) (f : FrameCount) :
    s.Logs ((s.moveHoldings new noEntry).reportHoldings s.arbiter.holdings f) :=
  (s.logs_moveHoldings new noEntry).trans (.of_log (State.reportHoldings_log ..))

theorem State.logs_changeHoldings (new : PerGroup Holding) : s.Logs (s.changeHoldings new) := s.logs_moveReported new _

theorem State.logs_sweepHoldings (f : FrameCount) : s.Logs (s.sweepHoldings f) := s.logs_moveReported _ f

theorem State.logs_takeOwedSweep : s.Logs s.takeOwedSweep := by
  unfold State.takeOwedSweep
  split
  · exact (s.logs_sweepHoldings _).trans (.of_log rfl)
  · exact .refl s

/-! The checks. -/

theorem State.touch_log (g : Group) : (s.touch l g).log = s.log := by
  rw [State.touch_eq]
  rfl

theorem State.logs_onGoodFrame {handle : State → State} (each : ∀ t : State, t.Logs (handle t)) :
    s.Logs (s.onGoodFrame l handle) := by
  have counted : s.Logs (s.modifyLink l LinkPort.goodFrame) := .of_log rfl
  unfold State.onGoodFrame
  dsimp only
  split_ifs
  · exact counted.trans (each _)
  · exact counted
  · exact .refl s

theorem State.logs_withReplySlot {handle : State → State} (each : ∀ t : State, t.Logs (handle t)) :
    s.Logs (s.withReplySlot l handle) := by
  have reserved : s.Logs (s.modifyLink l LinkPort.reserve) := .of_log rfl
  unfold State.withReplySlot
  split
  · exact .of_log rfl
  · exact reserved.trans (each _)

theorem State.logs_refuseUnreserved (tag kind : Byte) (reason : Reason) (g : Option Group) :
    s.Logs (s.refuseUnreserved l tag kind reason g) :=
  s.logs_withReplySlot l fun t => t.logs_refuse l tag kind reason g

theorem State.logs_admission (tag : Byte) (a : Action) : s.Logs (s.admission l tag a) := by
  have joined : s.Logs (s.setQueue (s.queue ++ [⟨l, tag, a⟩])) := .of_log rfl
  unfold State.admission
  split
  · exact s.logs_refuse ..
  · split_ifs
    · exact s.logs_refuse ..
    · exact s.logs_refuse ..
    · cases a.group with
      | none => exact joined
      | some g => exact joined.trans (.of_log (State.touch_log _ l g))

section
variable {α : Type} (k : Kind) (tag : Byte) (ps : List Byte) {read : List Byte → Option α} {valid : α → State → Bool}

theorem State.logs_immediate {known : Option Group} {run : α → State → State} (each : ∀ a (t : State), t.Logs (run a t)) :
    s.Logs (s.immediate k l tag ps known read valid run) := by
  refine s.logs_withReplySlot l fun t => ?_
  unfold State.checked
  split
  · split
    · exact t.logs_refuse ..
    · split
      · exact each _ t
      · exact t.logs_refuse ..
  · exact t.logs_refuse ..

theorem State.logs_groupChecked (g : Group) (lockable : Bool) {run : State → State} (each : ∀ t : State, t.Logs (run t)) :
    s.Logs (s.groupChecked k l tag g lockable run) := by
  unfold State.groupChecked
  split
  · exact s.logs_refuse ..
  · split
    · exact s.logs_refuse ..
    · exact each s

theorem State.logs_immediateGroup {g : Group} {lockable : Bool} {run : α → State → State} {data : α → State → List Byte}
    (each : ∀ a (t : State), t.Logs (run a t)) : s.Logs (s.immediateGroup k l tag ps g lockable read valid run data) :=
  s.logs_immediate l k tag ps fun a t => t.logs_groupChecked l k tag g lockable fun u => by
    have marked : ((run a u).touch l g).log = (run a u).log := State.touch_log ..
    exact (each a u).trans (.of_log marked)

end

/-! The requests. -/

variable (tag : Byte) (ps : List Byte)

theorem State.logs_takeFader : s.Logs (s.takeFader l tag ps) := by
  have refused (reason : Reason) (g : Option Group) := s.logs_refuseUnreserved l tag Kind.fader.code reason g
  have accepted (reading : Nat) : s.Logs (s.acceptReading l reading) := .of_log (State.touch_log _ l .trans)
  unfold State.takeFader
  split
  · split
    · exact refused ..
    · split
      · exact refused ..
      · split
        · exact refused ..
        · split
          · exact accepted _
          · exact refused ..
  · exact refused ..

theorem State.logs_takeClaim {change : State → PerGroup Holding → State} (each : ∀ (t : State) new, t.Logs (change t new)) :
    s.Logs (s.takeClaim change l tag ps) := by
  refine s.logs_immediate l _ tag ps fun g t => ?_
  unfold State.carryOutClaim
  split
  · exact t.logs_refuse ..
  · split
    · exact t.logs_refuse ..
    · exact (each t _).trans (.of_log rfl)

theorem State.logs_carryOutRelease (scope : ReleaseScope) : s.Logs (s.carryOutRelease l tag scope) := by
  unfold State.carryOutRelease
  dsimp only
  split
  · exact s.logs_refuse ..
  · exact (s.logs_changeHoldings _).trans (.of_log rfl)

theorem State.logs_carryOutUnassign (g : Group) : s.Logs (s.carryOutUnassign l tag g) := by
  unfold State.carryOutUnassign
  split
  · exact (s.logs_changeHoldings _).trans (.of_log (State.touch_log _ l .setup))
  · exact s.logs_refuse ..
  · exact s.logs_refuse ..

/-- SET LINK withdraws entries and refuses nothing else (R119). -/
theorem State.logs_changeLink (j : Link) (a : LinkAttributes) : s.Logs (s.changeLink j a) := by
  obtain ⟨moved, change, whole⟩ := s.changeLink_steps j a
  have withdrawn : s.Logs moved := by
    rw [State.Logs, change.state]
    exact moves_withdrawnLog ..
  have told := withdrawn.trans (.of_log (moved.reportHoldings_log s.arbiter.holdings s.reference.frameCount))
  rw [whole]
  split
  · rw [State.welcome_eq]
    exact told
  · exact told

theorem State.setLock_log : s.setLock.log = s.log := by
  unfold State.setLock
  split
  · rfl
  · exact State.postWhere_log ..

/-- A warm reset leaves the log as it is (R163). -/
theorem State.logs_takeWarmReset : s.Logs (s.takeWarmReset l tag ps) := by
  unfold State.takeWarmReset
  split
  · split
    · exact s.logs_refuseUnreserved ..
    · exact .of_log rfl
  · exact s.logs_refuseUnreserved ..

/-- The request of any defined kind: CLEAR LOG alone clears. -/
theorem State.logs_takeKind (k : Kind) : s.Logs (s.takeKind l k tag ps) := by
  cases k with
  | clearLog => exact s.logs_immediateGroup l _ tag ps fun n t => t.logs_clear n
  | fader => exact s.logs_takeFader l tag ps
  | claim => exact s.logs_takeClaim l tag ps State.logs_changeHoldings
  | release =>
    refine s.logs_immediate l _ tag ps fun (scope, drain) t => ?_
    dsimp only
    split
    · exact t.logs_admission l tag _
    · exact t.logs_carryOutRelease l tag scope
  | unassignStatic =>
    exact s.logs_immediate l _ tag ps fun g t => t.logs_groupChecked l _ tag _ _ fun u => u.logs_carryOutUnassign l tag g
  | assignStatic => exact s.logs_immediateGroup l _ tag ps fun _ t => t.logs_changeHoldings _
  | setLink => exact s.logs_immediateGroup l _ tag ps fun (j, a) t => t.logs_changeLink j a
  | lockSetup => exact s.logs_immediateGroup l _ tag ps fun _ t => .of_log t.setLock_log
  | clearReferenceFlag => exact s.logs_immediateGroup l _ tag ps fun _ t => .of_log (t.updateReference_log _)
  | warmReset => exact s.logs_takeWarmReset l tag ps
  | store | erase | setRephase | setAging => exact s.logs_immediateGroup l _ tag ps fun _ _ => .of_log rfl
  | queryBank | queryTally | queryStatus | walkMemory | walkHoldings | readCounters | readLog =>
    exact s.logs_immediate l _ tag ps fun _ _ => .of_log rfl
  | select | matte | nextSet | transitionSetup | faderSetup | auto | cut | keyOrder | keySelect | keySetup | keyMask | keyCut
  | recallEffects | setFormat | setOutputRange =>
    exact s.logs_immediate l _ tag ps (valid := anyValue) fun a t => t.logs_admission l tag a

theorem State.logs_hearKind (k : Kind) : s.Logs (s.onGoodFrame l fun s => s.takeKind l k tag ps) :=
  s.logs_onGoodFrame l fun t => t.logs_takeKind l tag ps k

theorem State.logs_hearFrame (f : RequestFrame) : s.Logs (s.hearFrame f) := by
  unfold State.hearFrame
  split
  · split
    · exact s.logs_hearKind ..
    · exact .refl s
  · exact .refl s

/-- A request with those that come together with it (R87). -/
theorem State.logs_arrive (k : Kind) (params : Params) :
    s.Logs (s.arrive l params fun s => s.takeKind l k tag params.bytes) := by
  have row (t : State) (frames : List RequestFrame) := State.Logs.foldl State.logs_hearFrame t frames
  exact (row _ _).trans ((State.logs_hearKind _ l tag params.bytes k).trans (row _ _))

/-- CLAIMs that come together (R109). -/
theorem State.logs_hearClaims (frames : List ClaimFrame) : s.Logs (s.hearClaims frames) := by
  refine (State.Logs.foldl (fun t f => ?_) s _).trans (.of_log (State.reportHoldings_log ..))
  exact t.logs_onGoodFrame f.link fun u =>
    u.logs_takeClaim f.link f.tag f.bytes fun v new => v.logs_moveHoldings new noEntry

/-! The receiver. -/

theorem State.logs_takeBody (body : List Byte) : s.Logs (s.takeBody l body) := by
  refine s.logs_onGoodFrame l fun t => ?_
  split
  · unfold State.takeRequest
    split
    · exact t.logs_refuseUnreserved ..
    · exact t.logs_takeKind ..
  · exact .refl t
  · exact .refl t

theorem State.discardFrame_log : (s.discardFrame l).log = s.log := by
  unfold State.discardFrame
  split <;> rfl

theorem State.receiveError_log : (s.receiveError l).log = s.log := by
  unfold State.receiveError
  split
  · rfl
  · exact s.discardFrame_log l

theorem State.logs_receiveByte (b : Byte) : s.Logs (s.receiveByte l b) := by
  have discarded : s.Logs (s.discardFrame l) := .of_log (s.discardFrame_log l)
  unfold State.receiveByte
  split
  · split <;> exact .of_log rfl
  · split
    · exact .of_log rfl
    · exact discarded
  · exact .of_log rfl
  · split
    · exact s.logs_takeBody l _
    · exact discarded

/-! Boundaries and pulses. -/

section
variable (signals : PerInput InputSignal)

/-- The application of an entry that one condition refuses. -/
theorem State.logs_refuseWhere {refused : Prop} [Decidable refused] (e : Entry) (reason : Reason) {done : State}
    (otherwise : s.Logs done) : s.Logs (if refused then s.refuseEntry e reason else done) := by
  split
  · exact s.logs_refuse ..
  · exact otherwise

theorem State.changeFormat_log (f : Format) : (s.changeFormat f signals).log = s.log := State.updateReference_log ..

theorem State.logs_applyEntry (e : Entry) : s.Logs (s.applyEntry signals e) := by
  obtain ⟨l, tag, action⟩ := e
  cases action with
  | select | nextSet | transitionSetup | faderSetup | keyOrder | keyCut => exact s.logs_refuseWhere _ _ (.of_log rfl)
  | matte | cut | keySelect | keySetup | keyMask | setOutputRange => exact .of_log rfl
  | auto =>
    show s.Logs (s.applyAuto _)
    unfold State.applyAuto
    split
    · exact .of_log rfl
    · exact .of_log rfl
    · exact s.logs_refuse ..
  | recallEffects =>
    exact s.logs_refuseWhere _ _ (s.logs_refuseWhere _ _ (s.logs_refuseWhere _ _ (.of_log rfl)))
  | release scope => exact s.logs_carryOutRelease l tag scope
  | setFormat f =>
    refine s.logs_refuseWhere _ _ ?_
    split
    · exact .of_log rfl
    · exact .of_log (s.changeFormat_log signals f)

theorem State.logs_boundary (instant : Nat) : s.Logs (s.boundary signals instant) := by
  have opened : s.Logs (s.takeOwedSweep.openBoundary signals instant) := s.logs_takeOwedSweep.trans (.of_log rfl)
  have applied : s.Logs (s.applied signals instant) :=
    State.applyRounds_keeps (P := s.Logs)
      (fun t e rest _ logged => logged.trans (State.logs_applyEntry (t.setQueue rest) signals e)) _ _ opened
  rw [s.boundary_eq signals instant]
  exact applied

/-- A pulse leaves the log to the boundary it may take (R136 to R139). -/
theorem State.logs_pulse (instant : Nat) : s.Logs (s.pulse instant signals) := by
  have moved (u : ReferenceUnit) : s.Logs (s.updateReference u) := .of_log (s.updateReference_log u)
  have bound (u : ReferenceUnit) : s.Logs ((s.setReference u).boundary signals instant) :=
    State.logs_boundary (s.setReference u) signals instant
  have waiting : s.Logs (s.pulseWaiting instant signals) := by
    unfold State.pulseWaiting
    dsimp only
    split_ifs
    · exact moved _
    · exact (moved _).trans (State.logs_boundary ..)
    · exact .of_log rfl
  have locked (due : Nat) : s.Logs (s.pulseLocked due instant signals) := by
    unfold State.pulseLocked
    dsimp only
    split_ifs
    · exact bound _
    · exact .of_log rfl
  unfold State.pulse
  dsimp only
  split
  · exact moved _
  · split
    · split
      · exact moved _
      · exact moved _
      · exact waiting
      · exact locked _
    · split
      · exact moved _
      · exact moved _
      · exact moved _
      · exact .refl s

end

/-! Every command. -/

variable {s l} {t : State}

theorem exec_sweep_logs (e : exec .sweep s = .next t) : s.Logs t := by
  obtain rfl := Host.Outcome.next.inj e
  split
  · exact s.logs_takeOwedSweep
  · exact .refl s
  · split
    · exact (s.logs_sweepHoldings _).trans (.of_log rfl)
    · exact .refl s

theorem exec_claim_logs {params : ClaimParams} (e : exec (.claim l tag params) s = .next t) : s.Logs t := by
  obtain rfl := Host.Outcome.next.inj e
  split
  · exact s.logs_hearKind l tag _ .claim
  · exact s.logs_hearClaims _

theorem exec_request_logs {c : Instr} {r : Kind × Link × Byte × Params} (asked : requestOf c = some r)
    (e : exec c s = .next t) : s.Logs t := by
  obtain ⟨k, l, tag, params⟩ := r
  rw [exec_requestOf s asked] at e
  exact Host.Outcome.next.inj e ▸ s.logs_arrive l tag k params

theorem exec_missingPulse_logs (e : exec .missingPulse s = .next t) : s.Logs t := by
  obtain rfl := Host.Outcome.next.inj e
  split
  · exact .refl s
  · split
    · exact .refl s
    · exact .of_log (s.updateReference_log _)

/-- Every command leaves the log to refusals and clears; a cold reset is a clear of all records (R162). -/
theorem exec_logs (c : Instr) (e : exec c s = .next t) : s.Logs t := by
  cases c with
  | frameBoundary signals =>
    obtain rfl := Host.Outcome.next.inj e
    split
    · exact .refl s
    · exact s.logs_boundary _ _
  | referencePulse instant signals =>
    obtain rfl := Host.Outcome.next.inj e
    split
    · exact .refl s
    · exact s.logs_pulse _ _
  | sweep => exact exec_sweep_logs e
  | missingPulse => exact exec_missingPulse_logs e
  | claim l tag params => exact exec_claim_logs tag e
  | coldResetAsserted => exact Host.Outcome.next.inj e ▸ .single (.clear none)
  | coldResetReleased timerDue =>
    obtain rfl := Host.Outcome.next.inj e
    split <;> exact .of_log rfl
  | warmResetAsserted =>
    obtain rfl := Host.Outcome.next.inj e
    split <;> exact .of_log rfl
  | signalLoss i first last =>
    obtain rfl := Host.Outcome.next.inj e
    split <;> exact .of_log rfl
  | warmResetReleased | transmissionBegins | transmissionEnds => exact Host.Outcome.next.inj e ▸ .of_log rfl
  | undefinedKind l kind tag ps => exact Host.Outcome.next.inj e ▸ s.logs_takeBody l _
  | disabledLinkFrame l kind tag ps => exact Host.Outcome.next.inj e ▸ s.logs_takeBody l _
  | frameDiscarded l cause => exact Host.Outcome.next.inj e ▸ .of_log (s.discardFrame_log l)
  | byteGapExpiry l => exact Host.Outcome.next.inj e ▸ .of_log (s.receiveError_log l)
  | byteReceived l b stopValid =>
    obtain rfl := Host.Outcome.next.inj e
    split
    · split
      · exact s.logs_receiveByte l b
      · exact .of_log (s.receiveError_log l)
    · exact .refl s
  | _ => exact exec_request_logs rfl e

theorem step_logs (e : step s = .next t) : s.Logs t := by
  unfold step at e
  split at e
  · exact Host.Outcome.next.inj e ▸ .refl s
  · next c rest _ => exact exec_logs (s := { s with pending := rest }) c e

/-- Settles O8: a step makes of the log only what refusals and clears make of it, and each of those keeps the law. -/
theorem logLawKept : Obligations.LogLawKept := fun _ _ h e => h.moves (step_logs e)

end Sys2Proof.Machine
end

section
/-! One step: the queue decides which command runs, and the state it runs on holds the rest of the queue (logs 1 and 2). -/

namespace Sys2Proof.Machine

theorem step_of_pending_cons {s : State} {c : Instr} {rest : List Instr} (h : s.pending = c :: rest) :
    step s = exec c { s with pending := rest } := by
  rw [step, h]

theorem step_of_pending_nil {s : State} (h : s.pending = []) : step s = .next s := by
  rw [step, h]

/-- Settles O1, by the two shapes of the queue: with a command in front, replacing the queue again forgets that command. -/
theorem stepTakesFront : Obligations.StepTakesFront :=
  ⟨fun _ _ _ => step_of_pending_cons rfl, fun _ => step_of_pending_nil⟩

end Sys2Proof.Machine
end
